-- ==== Sys2Proof/Word.lean ====
section
/-! DEFINITION. The widths of the block's ports, vectors and codes, and the input ports of one clock edge
(spec/10_state.md R20, R22; spec/00_scope.md R10: bit 0 is least significant, every value is unsigned). -/

namespace Sys2Proof

/-- A RawSample: the value of `adc_data`, 10 bits (R20). -/
abbrev Sample := BitVec 10

/-- The 6-bit step selector, rst then V then P from the top (R80). -/
abbrev Selector := BitVec 6

/-- A code of the register PHASE, 4 bits (R32, R83). -/
abbrev PhaseCode := BitVec 4

/-- A pattern code, the address of the pattern ROM, 4 bits (R87). -/
abbrev PatCode := BitVec 4

/-- A segment vector: bits 0 to 6 are A to G, bit 7 is the decimal point (R85). -/
abbrev SegVec := BitVec 8

/-- A digit-select vector: bit p-1 is position p (R86). -/
abbrev DigVec := BitVec 3

/-- A duration in ticks as the pattern ROM holds it, 17 bits (R110). -/
abbrev Dur := BitVec 17

/-- The input ports as one rising edge of `clk` samples them (R20). The edge itself is the step. -/
structure Inputs where
  /-- `ce`, the tick enable. -/
  ce : Bool
  /-- `rst`, the synchronous reset, active high. -/
  rst : Bool
  /-- `adc_valid`: the ADC source offers a sample. -/
  adcValid : Bool
  /-- `adc_data`: the RawSample on the port. -/
  adcData : Sample
deriving DecidableEq, Repr, Inhabited

/-- On this edge an operation is performed: `ce = 1` or `rst = 1` (R20, R80). -/
def Inputs.active (i : Inputs) : Bool := i.ce || i.rst

/-- The edge is a tick of normal running: `ce = 1` and `rst = 0`. -/
def Inputs.running (i : Inputs) : Bool := i.ce && !i.rst

end Sys2Proof
end

