-- ==== Sys2Proof/Config/Params.lean ====
section
/-! DEFINITION. The constants the source fixes (spec/00_scope.md R5) and the parameters it leaves open (R6). -/

namespace Sys2Proof.Config

/-- `ADC_BITS` (R5). -/
def adcBits : Nat := 10

/-- `N_SAMPLES`: the samples of a batch (R5). -/
def nSamples : Nat := 32

/-- `OSB`, the oversample bits (R5). -/
def osb : Nat := 5

/-- `XRB`, the extra resolution bits (R5). -/
def xrb : Nat := 2

/-- `DEC_SHIFT = OSB - XRB` (R5). -/
def decShift : Nat := osb - xrb

/-- `ROUND_BIT = OSB - 1 - XRB` (R5). -/
def roundBit : Nat := osb - 1 - xrb

/-- `FULL_CODE = 1023 << XRB` (R5). -/
def fullCode : Nat := 1023 <<< xrb

/-- `FRAME_US`: the frame deadline in ticks (R5, R9). -/
def frameUs : Nat := 10000

/-- `N_DIGITS` (R5). -/
def nDigits : Nat := 3

/-- `N_SEG` (R5). -/
def nSeg : Nat := 8

/-- `N_PATTERNS` (R5). -/
def nPatterns : Nat := 11

/-- The largest DisplayValue (R28, R197). -/
def dispMax : Nat := 9999

/-- The longest duration of a lit phase: it fits the 16-bit hold counter as `dur - 1` (R8, R33). -/
def durMax : Nat := 65536

end Sys2Proof.Config

namespace Sys2Proof

/-- A positive rational as numerator over denominator (R6: `SCALE[d]`; R11: exact fractions).
It need not be in lowest terms. DESIGN CHOICE, log 5 (safe). -/
structure Ratio where
  num : Nat
  den : Nat
deriving DecidableEq, Repr, Inhabited

/-- The round-up test of the decimator (R6, R193). `bitTest` is normative; `legacyAnd` is for crosschecks only. -/
inductive RoundMode where
  | bitTest
  | legacyAnd
deriving DecidableEq, Repr, Inhabited

/-- The open parameters (R6). None may change while the block runs. -/
structure Params where
  /-- `FS_MV`, the full-scale voltage in millivolts. -/
  fsMv : Nat
  /-- `BASE_US`, the base brightness duration in ticks. -/
  baseUs : Nat
  /-- `SCALE[0..9]`, the brightness scale factors. -/
  scale : Vector Ratio 10
  /-- `DP_US`, the duration of the decimal-point sub-frame in ticks. -/
  dpUs : Nat
  /-- `ROUND_MODE`. -/
  roundMode : RoundMode
deriving DecidableEq, Repr, Inhabited

end Sys2Proof
end

