-- ==== Sys2Proof/Machine/Duration.lean ====
section
/-! DEFINITION. The hold durations of the digit glyphs (spec/41_digit_driver.md R131) and the width of VMV (spec/10_state.md R27). -/

namespace Sys2Proof

/-- `DUR[d] = floor(BASE_US / SCALE[d])` (R131): with `SCALE[d] = num / den` this is `BASE_US * den / num`, rounded down. -/
def Params.dur (p : Params) (d : Fin 10) : Nat :=
  p.baseUs * p.scale[d].den / p.scale[d].num

/-- `VMV_W`: the bit length of `(4093 * FS_MV) / 4092` (R27). -/
def Params.vmvWidth (p : Params) : Nat :=
  Nat.log2 (4093 * p.fsMv / Config.fullCode) + 1

end Sys2Proof
end

