-- ==== Sys2Proof/Config.lean ====
section
/-! DEFINITION. What is fixed when the block is built (spec/00_scope.md R6 to R8), and the values the spec leaves free. -/

namespace Sys2Proof

/-- A configuration is admissible (R7, R8): the bounds of R8, and the ordering constraints of R7, which are checked on
`DUR` and not on `SCALE`. A scale factor is a positive rational (R6), so neither of its parts is 0. -/
abbrev Params.Admissible (p : Params) : Prop :=
  1 ≤ p.fsMv ∧ 1 ≤ p.baseUs ∧ 1 ≤ p.dpUs ∧
  (∀ d : Fin 10, 1 ≤ p.scale[d].num ∧ 1 ≤ p.scale[d].den) ∧
  p.scale[8].num = p.scale[8].den ∧
  (∀ d : Fin 10, p.dur d ≤ p.dur 8) ∧
  p.dur 1 < p.dur 8 ∧
  (∀ d : Fin 10, 1 ≤ p.dur d ∧ p.dur d ≤ Config.durMax) ∧
  p.dpUs ≤ Config.durMax

/-- A block that can be built: an admissible configuration (R8, R262: any other is refused when the block is built). -/
abbrev Block := { p : Params // p.Admissible }

/-- The configuration of the block that State.reset describes. The source states no value for any parameter and R6
forbids a guessed one, so it is an uninterpreted admissible configuration: every claim about it holds for all of them.
The argument only says that some admissible configuration exists. DESIGN CHOICE, log 3 (safe). -/
opaque Config.block (exists_one : Inhabited Block) : Block

/-- What the input ports hold on clock edge number n when no input word is pending: in every step the inputs are a free
draw of the environment (R238). DESIGN CHOICE, log 2 (safe). -/
opaque Config.freeInputs : Nat → Inputs

/-- The 15-bit sum on clock edge number n when `ACC + s` does not fit 15 bits; the invariant R42 excludes it.
DESIGN CHOICE, log 6 (safe). -/
opaque Config.freeSum : Nat → BitVec 15

/-- The 12-bit reading on clock edge number n when the decimated sum does not fit 12 bits; the invariant R42 excludes it.
DESIGN CHOICE, log 7 (safe). -/
opaque Config.freeReading : Nat → BitVec 12

end Sys2Proof
end

