-- ==== Sys2Proof/Syntax.lean ====
section
/-! DEFINITION. The operations of the block: one constructor per row of spec/opcode_table.json (spec/30_encoding.md R80, R83). -/

namespace Sys2Proof

/-- One operation, as the 6-bit step selector names it. The operands `v` (the selector's V bit), `p` (its P field) and
`low` (P's two low bits) are the bits the row leaves open: the operations that carry them ignore them (R81). -/
inductive Instr where
  /-- RESET, selector 1 x xxxx (R290). -/
  | reset (v : Bool) (p : PhaseCode)
  /-- SAMPLE_WAIT, selector 0 0 0000 (R232). -/
  | sampleWait
  /-- FEED, selector 0 1 0000 (R190). -/
  | feed
  /-- SETUP, selector 0 x 0001 (R152). -/
  | setup (v : Bool)
  /-- HOLD in LIT3, selector 0 x 0010 (R158). -/
  | holdLit3 (v : Bool)
  /-- GAP_LOAD in GAP3, selector 0 x 0011 (R159). -/
  | gapLoadGap3 (v : Bool)
  /-- HOLD in LIT2, selector 0 x 0100 (R158). -/
  | holdLit2 (v : Bool)
  /-- GAP_LOAD in GAP2, selector 0 x 0101 (R159). -/
  | gapLoadGap2 (v : Bool)
  /-- HOLD in LIT1, selector 0 x 0110 (R158). -/
  | holdLit1 (v : Bool)
  /-- GAP_DP, selector 0 x 0111 (R160). -/
  | gapDp (v : Bool)
  /-- HOLD_DP, selector 0 x 1000 (R161). -/
  | holdDp (v : Bool)
  /-- GAP_END, selector 0 x 1001 (R163). -/
  | gapEnd (v : Bool)
  /-- PAD, selector 0 x 1010 (R164). -/
  | pad (v : Bool)
  /-- RECOVER at phase code 0xB, selector 0 x 1011 (R84). -/
  | recoverB (v : Bool)
  /-- RECOVER at phase codes 0xC to 0xF, selector 0 x 11xx (R84). -/
  | recoverCF (v : Bool) (low : BitVec 2)
deriving DecidableEq, Repr

end Sys2Proof
end

