-- ==== Sys2Proof/WellFormed.lean ====
section
/-! DEFINITION. What is well formed: the operations (all of them), and a configuration, check by check (spec/00_scope.md R7, R8). -/

namespace Sys2Proof

/-- Every operation is well formed: a selector row fixes some bits and leaves the others open, and a constructor's
operands are exactly the open bits (R80, R91: no selector value is illegal). -/
def Instr.wellFormed : Instr → Bool
  | .reset _ _ => true
  | .sampleWait => true
  | .feed => true
  | .setup _ => true
  | .holdLit3 _ => true
  | .gapLoadGap3 _ => true
  | .holdLit2 _ => true
  | .gapLoadGap2 _ => true
  | .holdLit1 _ => true
  | .gapDp _ => true
  | .holdDp _ => true
  | .gapEnd _ => true
  | .pad _ => true
  | .recoverB _ => true
  | .recoverCF _ _ => true

/-- Why a configuration is refused when the block is built (R8, R262), one name per check. -/
inductive ConfigError where
  /-- `FS_MV >= 1` fails. -/
  | fullScaleZero
  /-- `BASE_US >= 1` fails. -/
  | baseZero
  /-- `DP_US >= 1` fails. -/
  | pointZero
  /-- Some `SCALE[d]` is not a positive rational. -/
  | scaleNotPositive
  /-- `SCALE[8] = 1` fails. -/
  | scaleOfEight
  /-- `DUR[8] >= DUR[d]` fails for some d. -/
  | eightNotLongest
  /-- `DUR[1] < DUR[8]` fails. -/
  | oneNotShorter
  /-- `1 <= DUR[d] <= 65536` fails for some d. -/
  | durationRange
  /-- `DP_US <= 65536` fails. -/
  | pointTooLong
deriving DecidableEq, Repr

/-- The first check of R8 that the configuration fails, in the order of `ConfigError`; none when it is admissible. -/
def Params.firstError (p : Params) : Option ConfigError :=
  if ¬ 1 ≤ p.fsMv then some .fullScaleZero
  else if ¬ 1 ≤ p.baseUs then some .baseZero
  else if ¬ 1 ≤ p.dpUs then some .pointZero
  else if ¬ ∀ d : Fin 10, 1 ≤ p.scale[d].num ∧ 1 ≤ p.scale[d].den then some .scaleNotPositive
  else if ¬ p.scale[8].num = p.scale[8].den then some .scaleOfEight
  else if ¬ ∀ d : Fin 10, p.dur d ≤ p.dur 8 then some .eightNotLongest
  else if ¬ p.dur 1 < p.dur 8 then some .oneNotShorter
  else if ¬ ∀ d : Fin 10, 1 ≤ p.dur d ∧ p.dur d ≤ Config.durMax then some .durationRange
  else if ¬ p.dpUs ≤ Config.durMax then some .pointTooLong
  else none

/-- The checks find no error exactly in an admissible configuration. -/
theorem Params.firstError_none_iff (p : Params) : p.firstError = none ↔ p.Admissible := by
  unfold Params.firstError Params.Admissible
  split_ifs <;> simp_all

/-- Configuration EX1 of spec/95_test_vectors.md section 2: the witness that an admissible configuration exists. It is an
example, not a value of the source, and no definition of the machine reads it. -/
def Params.ex1 : Params where
  fsMv := 1100
  baseUs := 1400
  scale := #v[⟨7, 6⟩, ⟨7, 2⟩, ⟨7, 5⟩, ⟨7, 5⟩, ⟨7, 4⟩, ⟨7, 5⟩, ⟨7, 6⟩, ⟨7, 3⟩, ⟨7, 7⟩, ⟨7, 6⟩]
  dpUs := 200
  roundMode := .bitTest

theorem Params.ex1_admissible : Params.ex1.Admissible := by decide

/-- The block built with EX1. -/
def Block.ex1 : Block := ⟨Params.ex1, Params.ex1_admissible⟩

end Sys2Proof
end

