-- ==== Sys2Proof/Machine/State.lean ====
section
/-! DEFINITION. The state of the block: its registers (spec/10_state.md R23 to R38), the configuration it is built with
(spec/00_scope.md R6) and the input words still to come (spec/10_state.md R20, spec/30_encoding.md R92). -/

namespace Sys2Proof.Machine

/-- The whole state. The registers keep the spec's names and widths; the pattern ROM is a function of `block` (R110). -/
structure State where
  /-- The configuration the block is built with (R6); nothing writes it (R41, R70). -/
  block : Block
  /-- `ACC`, the running sum of the batch (R24). -/
  acc : BitVec 15
  /-- `CNT`, the samples in the batch (R25). -/
  cnt : BitVec 5
  /-- `DEC`, the last decimated reading (R26). -/
  dec : BitVec 12
  /-- `VMV`, the last voltage in whole millivolts (R27), as an unbounded natural (decision D32; log 8). -/
  vmv : Nat
  /-- `DISP`, the value the next frame renders (R28). -/
  disp : BitVec 14
  /-- `OVF`: the last batch's display value was clamped (R29). -/
  ovf : Bool
  /-- `LAST_SUM`, the sum of the last completed batch (R30). -/
  lastSum : BitVec 15
  /-- `BD`: a batch completed in the last tick (R31). -/
  bd : Bool
  /-- `PHASE`, the analogue of a program counter (R32, R39). -/
  phase : PhaseCode
  /-- `HC`, the ticks a lit phase still lasts after the current one (R33). -/
  hc : BitVec 16
  /-- `FT`, the finished ticks of the frame, saturating (R34). -/
  ft : BitVec 14
  /-- `FV`, the value the remaining digits are taken from (R35). -/
  fv : BitVec 10
  /-- `DPP`, the decimal places of the frame (R36). -/
  dpp : BitVec 2
  /-- `SEG`, the logical segment vector (R37). -/
  seg : SegVec
  /-- `DIG`, the logical digit-select vector (R38). -/
  dig : DigVec
  /-- The model's own: the input words of the coming clock edges, oldest first (R20, R92; log 2). -/
  stim : List Inputs
  /-- The model's own: the clock edges passed so far, the index of every free value (log 2). -/
  edge : Nat
deriving DecidableEq, Repr

/-- Why a step stops with a fault. It has no constructor: the block raises no exception and every operation is defined for
every state and every input (R260), so no step faults. DEDUCED, log 13 (safe). -/
inductive Fault where
deriving DecidableEq, Repr

/-- Why the model refuses. No meaning of an operation answers with either. -/
inductive Refusal where
  /-- Raised only by an arm of exec whose operation has no meaning yet; there is none. Safe: it stops. -/
  | notModelled (mnemonic : String)
  /-- Raised only by `State.build`, for a configuration that is not admissible (R8, R262). Safe: no such block exists. -/
  | inadmissible (why : ConfigError)
deriving DecidableEq, Repr

/-- The block `b` right after a RESET step (R290), with no input word pending. -/
def State.ofBlock (b : Block) : State where
  block := b
  acc := 0
  cnt := 0
  dec := 0
  vmv := 0
  disp := 0
  ovf := false
  lastSum := 0
  bd := false
  phase := 0x0#4
  hc := 0
  ft := 0
  fv := 0
  dpp := 0
  seg := 0x00#8
  dig := 0b000#3
  stim := []
  edge := 0

/-- The machine right after reset (R290, R292): the reset state of a block whose admissible configuration is unknown
(log 3). A run starts here because the state before the first RESET is unspecified (R291, log 14). -/
def State.reset : State := State.ofBlock (Config.block ⟨Block.ex1⟩)

end Sys2Proof.Machine
end

