-- ==== Sys2Proof/Machine/Flags.lean ====
section
/-! DEFINITION. The flag computations (spec/10_state.md R40: OVF and BD are the only flags) and the decimator's round-up flag. -/

namespace Sys2Proof.Machine

/-- RoundFlag(a) (R193): bit 2 of the sum under `BIT_TEST`, the normative mode; `a != 0` under `LEGACY_AND`. -/
def roundFlag (m : RoundMode) (a : BitVec 15) : Nat :=
  match m with
  | .bitTest => if a.getLsbD Config.roundBit then 1 else 0
  | .legacyAnd => if a = 0 then 0 else 1

/-- OVF (R197): the unclamped display value is above 9999. -/
def overflows (t : Nat) : Bool := decide (Config.dispMax < t)

/-- The end of an operation that does not complete a batch: `BD` is 0 (R82, R31). -/
def State.clearBd (s : State) : State := { s with bd := false }

end Sys2Proof.Machine
end

