-- ==== Sys2Proof/Decode.lean ====
section
/-! DEFINITION. The decoder of the 6-bit step selector and, after it, the encoder (spec/30_encoding.md R80, R81, R83, R84). -/

namespace Sys2Proof

/-- The selector's `rst` bit, bit 5 (R80). -/
def Selector.rst (w : Selector) : Bool := w.getLsbD 5

/-- The selector's V bit, bit 4 (R80). -/
def Selector.valid (w : Selector) : Bool := w.getLsbD 4

/-- The selector's P field, bits 3 to 0 (R80). -/
def Selector.phase (w : Selector) : PhaseCode := w.extractLsb' 0 4

/-- `{rst, V, P}` (R80). -/
def Selector.pack (rst valid : Bool) (p : PhaseCode) : Selector :=
  BitVec.ofBool rst ++ BitVec.ofBool valid ++ p

/-- The operation a selector chooses (R81, R83): RESET whatever the other bits when `rst = 1`; V is read only in SAMPLE.
Total: no selector value is illegal (R91). -/
def decode (w : Selector) : Instr :=
  if w.rst then .reset w.valid w.phase
  else match w.phase.toNat with
    | 0x0 => if w.valid then .feed else .sampleWait
    | 0x1 => .setup w.valid
    | 0x2 => .holdLit3 w.valid
    | 0x3 => .gapLoadGap3 w.valid
    | 0x4 => .holdLit2 w.valid
    | 0x5 => .gapLoadGap2 w.valid
    | 0x6 => .holdLit1 w.valid
    | 0x7 => .gapDp w.valid
    | 0x8 => .holdDp w.valid
    | 0x9 => .gapEnd w.valid
    | 0xA => .pad w.valid
    | 0xB => .recoverB w.valid
    | _ => .recoverCF w.valid (w.phase.extractLsb' 0 2)

/-- Why a string of bytes is not one selector. The selector is 6 bits and no byte of the block holds it (R62, R80): it is
laid out as the low 6 bits of one byte whose two high bits are 0. DESIGN CHOICE, log 15 (safe). -/
inductive DecodeError where
  /-- There is no byte. -/
  | noByte
  /-- Bit 7 or bit 6 of the byte is 1. -/
  | notASelector
  /-- Bytes follow the first one: the selector has one fixed length (R80). -/
  | trailingBytes
deriving DecidableEq, Repr

/-- The selector laid out in bytes: total on any bytes, rejecting by name. -/
def decodeBytes : List (BitVec 8) → Except DecodeError Instr
  | [] => .error .noByte
  | [b] => if b.toNat < 64 then .ok (decode (b.setWidth 6)) else .error .notASelector
  | _ :: _ :: _ => .error .trailingBytes

/-- The instruction the decoder reads from the `nbits` low bits of `w`, numbered as spec/opcode_table.json numbers them.
The one byte of the layout holds bits 7 to 0. -/
def decodeTableWord (nbits w : Nat) : Option Instr :=
  let bits := w % 2 ^ nbits
  if bits < 256 then (decodeBytes [BitVec.ofNat 8 bits]).toOption else none

/-- The selector of an operation (R80, R83, R84): the row's fixed bits with the operands in its open bits. -/
def encode : Instr → Selector
  | .reset v p => Selector.pack true v p
  | .sampleWait => 0b000000#6
  | .feed => 0b010000#6
  | .setup v => Selector.pack false v 0x1#4
  | .holdLit3 v => Selector.pack false v 0x2#4
  | .gapLoadGap3 v => Selector.pack false v 0x3#4
  | .holdLit2 v => Selector.pack false v 0x4#4
  | .gapLoadGap2 v => Selector.pack false v 0x5#4
  | .holdLit1 v => Selector.pack false v 0x6#4
  | .gapDp v => Selector.pack false v 0x7#4
  | .holdDp v => Selector.pack false v 0x8#4
  | .gapEnd v => Selector.pack false v 0x9#4
  | .pad v => Selector.pack false v 0xA#4
  | .recoverB v => Selector.pack false v 0xB#4
  | .recoverCF v low => Selector.pack false v (0b11#2 ++ low)

/-- A row of spec/opcode_table.json: a selector belongs to it when its bits under `mask` are those of `value`. -/
structure Row where
  mnemonic : String
  value : Selector
  mask : Selector
deriving DecidableEq, Repr

/-- The selector `w` belongs to the row. -/
def Row.matches (r : Row) (w : Selector) : Bool := w &&& r.mask == r.value

/-- The row of spec/opcode_table.json that each constructor stands for. -/
def Instr.row : Instr → Row
  | .reset _ _ => ⟨"RESET", 0x20#6, 0x20#6⟩
  | .sampleWait => ⟨"SAMPLE_WAIT", 0x00#6, 0x3F#6⟩
  | .feed => ⟨"FEED", 0x10#6, 0x3F#6⟩
  | .setup _ => ⟨"SETUP", 0x01#6, 0x2F#6⟩
  | .holdLit3 _ => ⟨"HOLD.LIT3", 0x02#6, 0x2F#6⟩
  | .gapLoadGap3 _ => ⟨"GAP_LOAD.GAP3", 0x03#6, 0x2F#6⟩
  | .holdLit2 _ => ⟨"HOLD.LIT2", 0x04#6, 0x2F#6⟩
  | .gapLoadGap2 _ => ⟨"GAP_LOAD.GAP2", 0x05#6, 0x2F#6⟩
  | .holdLit1 _ => ⟨"HOLD.LIT1", 0x06#6, 0x2F#6⟩
  | .gapDp _ => ⟨"GAP_DP", 0x07#6, 0x2F#6⟩
  | .holdDp _ => ⟨"HOLD_DP", 0x08#6, 0x2F#6⟩
  | .gapEnd _ => ⟨"GAP_END", 0x09#6, 0x2F#6⟩
  | .pad _ => ⟨"PAD", 0x0A#6, 0x2F#6⟩
  | .recoverB _ => ⟨"RECOVER.B", 0x0B#6, 0x2F#6⟩
  | .recoverCF _ _ => ⟨"RECOVER.C-F", 0x0C#6, 0x2C#6⟩

end Sys2Proof
end

