-- ==== Sys2Proof/Machine/Operands.lean ====
section
/-! DEFINITION. The operands of the operations: the input ports of the coming edge, the step selector, the phase codes and
the encodings of digit positions, pattern codes and decimal places (spec/30_encoding.md R80, R83, R86 to R90). -/

namespace Sys2Proof.Machine

/-- SAMPLE (R83). -/
abbrev Phase.sample : PhaseCode := 0x0#4
/-- SETUP (R83). -/
abbrev Phase.setup : PhaseCode := 0x1#4
/-- LIT3 (R83). -/
abbrev Phase.lit3 : PhaseCode := 0x2#4
/-- GAP3 (R83). -/
abbrev Phase.gap3 : PhaseCode := 0x3#4
/-- LIT2 (R83). -/
abbrev Phase.lit2 : PhaseCode := 0x4#4
/-- GAP2 (R83). -/
abbrev Phase.gap2 : PhaseCode := 0x5#4
/-- LIT1 (R83). -/
abbrev Phase.lit1 : PhaseCode := 0x6#4
/-- GAP1 (R83). -/
abbrev Phase.gap1 : PhaseCode := 0x7#4
/-- LITDP (R83). -/
abbrev Phase.litDp : PhaseCode := 0x8#4
/-- GAPDP (R83). -/
abbrev Phase.gapDp : PhaseCode := 0x9#4
/-- PAD (R83). -/
abbrev Phase.pad : PhaseCode := 0xA#4

/-- A digit place: 1 is leftmost, 3 rightmost (R86, R155). -/
inductive Position where
  | p1
  | p2
  | p3
deriving DecidableEq, Repr

/-- The number of a position. -/
def Position.number : Position → Nat
  | .p1 => 1
  | .p2 => 2
  | .p3 => 3

/-- `onehot(p) = 1 << (p - 1)` (R86). -/
def onehot (p : Position) : DigVec := 1#3 <<< (p.number - 1)

/-- The pattern code of a digit sub-frame, `zext_4(x % 10)` (R90, R157). -/
def digitCode (x : Nat) : PatCode := BitVec.ofNat 4 (x % 10)

/-- RangeSelect, the auto-ranging (R153): the value of the frame and its decimal places. -/
def rangeSelect (v : Nat) : Nat × BitVec 2 :=
  if v < 1000 then (v, 2#2) else (v / 10, 1#2)

/-- dpOnehot (R156, R88): the line and the segments of the decimal-point sub-frame. -/
def dpOnehot (dpp : BitVec 2) : DigVec × SegVec :=
  match dpp.toNat with
  | 2 => (0b001#3, 0x80#8)
  | 1 => (0b010#3, 0x80#8)
  | 0 => (0b100#3, 0x80#8)
  | _ => (0b000#3, 0x00#8)

/-- The input ports j edges from now: the pending word, or a free draw where none is pending (R20, R238; log 2). -/
def State.inputsAt (s : State) (j : Nat) : Inputs :=
  s.stim[j]?.getD (Config.freeInputs (s.edge + j))

/-- The input ports of the coming edge (R12: `in.x`). -/
def State.inputs (s : State) : Inputs := s.inputsAt 0

/-- The step selector `{in.rst, in.adc_valid, PHASE[3:0]}` (R80). -/
def State.selector (s : State) : Selector :=
  Selector.pack s.inputs.rst s.inputs.adcValid s.phase

/-- The sum `a <- ACC + s` of a FEED (R190), 15 bits. A sum that does not fit 15 bits, which R42 and R201 exclude, is a
free value. DESIGN CHOICE, log 6 (safe). -/
def State.feedSum (s : State) : BitVec 15 :=
  let a := s.acc.toNat + s.inputs.adcData.toNat
  if a < 2 ^ 15 then BitVec.ofNat 15 a else Config.freeSum s.edge

end Sys2Proof.Machine
end

