-- ==== Sys2Proof/Machine/PatternRom.lean ====
section
/-! DEFINITION. The segment pattern table: the pattern ROM and its read, LOOKUP (spec/40_pattern_table.md R110 to R117). -/

namespace Sys2Proof.Machine

/-- An entry of the pattern ROM (R110). -/
structure RomEntry where
  seg : SegVec
  dur : Dur
deriving DecidableEq, Repr

/-- `GLYPH[d]` (R111), in the bit order of R85. The rows of 0, 2 to 7 and 9 and the letters of 1 are the spec's general
knowledge (G1), not the source's: log 18. -/
def glyph (d : Fin 10) : SegVec :=
  match d with
  | 0 => 0x3F
  | 1 => 0x06
  | 2 => 0x5B
  | 3 => 0x4F
  | 4 => 0x66
  | 5 => 0x6D
  | 6 => 0x7D
  | 7 => 0x07
  | 8 => 0x7F
  | 9 => 0x6F

/-- The Blank entry: all off, duration 0 (R114). -/
def RomEntry.blank : RomEntry := ⟨0x00, 0⟩

/-- LOOKUP, `PatRom(c)` (R112): a digit code reads its glyph and duration; Blank (0xF) and the reserved codes 0xA to 0xE
read as Blank (R114, R115). A pure function of the code (R116). -/
def patRom (b : Block) (c : PatCode) : RomEntry :=
  if h : c.toNat < 10 then ⟨glyph ⟨c.toNat, h⟩, BitVec.ofNat 17 (b.val.dur ⟨c.toNat, h⟩)⟩
  else RomEntry.blank

/-- How many of the bits 0 to n-1 of a vector are 1. -/
def popcount (v : SegVec) : Nat → Nat
  | 0 => 0
  | n + 1 => popcount v n + (if v.getLsbD n then 1 else 0)

/-- `n[c]`, the segments a code lights: the 1 bits of `seg[6:0]` (R117). -/
def segmentCount (b : Block) (c : PatCode) : Nat := popcount (patRom b c).seg 7

end Sys2Proof.Machine
end

