-- ==== Sys2Proof/Machine/Ops.lean ====
section
/-! DEFINITION. The shared operations on the registers: the reset of all of them, the frame timer, the all-off display,
DRIVE, LOAD, HOLD, SCALE and DECIMATE. The block takes no exception and has no return from one (spec/60_exceptions.md R260,
R265, R266); the one event that breaks the phase sequence is RESET, `State.resetRegisters`. -/

namespace Sys2Proof.Machine

/-- Every register at its reset value (R290); the configuration and the environment are no registers and stay (log 23). -/
def State.resetRegisters (s : State) : State :=
  { State.ofBlock s.block with stim := s.stim, edge := s.edge }

/-- `FT <- min(FT + 1, 10000)` (R162). -/
def State.tickFrame (s : State) : State :=
  { s with ft := BitVec.ofNat 14 (min (s.ft.toNat + 1) Config.frameUs) }

/-- `SEG <- 0x00; DIG <- 0b000`: every line off (R158, R84). -/
def State.dark (s : State) : State := { s with seg := 0x00#8, dig := 0b000#3 }

/-- `phase <- P` (R12). -/
def State.goto (p : PhaseCode) (s : State) : State := { s with phase := p }

/-- DRIVE (R130): the pattern of the code on all 8 segment lines, and its hold duration. -/
def State.drive (c : PatCode) (s : State) : State × Dur :=
  let e := patRom s.block c
  ({ s with seg := e.seg }, e.dur)

/-- LOAD(p, x) (R157): drive the last digit of `x` at position `p` for its duration and keep the other digits. -/
def State.load (p : Position) (x : Nat) (s : State) : State :=
  let driven := s.drive (digitCode x)
  { driven.1 with
    dig := onehot p
    hc := BitVec.ofNat 16 (driven.2.toNat - 1)
    fv := BitVec.ofNat 10 (x / 10) }

/-- HOLD (R158, R161) in a lit phase that `next` follows: count down, and at 0 turn everything off and go on. -/
def State.hold (next : PhaseCode) (s : State) : State :=
  let s' := s.tickFrame
  if s.hc = 0 then s'.dark.goto next else { s' with hc := s.hc - 1 }

/-- GAP_END's tick (R163): count it, and go to SAMPLE if the deadline is reached, else to PAD. -/
def State.endOrPad (s : State) : State :=
  let s' := s.tickFrame
  if s'.ft.toNat = Config.frameUs then s'.goto Phase.sample else s'.goto Phase.pad

/-- SCALE(q) (R196, R197): the voltage in whole millivolts, the display value clamped to 9999, and OVF. -/
def State.scale (q : Nat) (s : State) : State :=
  let v := q * s.block.val.fsMv / Config.fullCode
  let t := v / 10
  { s with
    vmv := v
    disp := BitVec.ofNat 14 (if overflows t then Config.dispMax else t)
    ovf := overflows t }

/-- The decimated reading of a sum, `(a >> 3) + RoundFlag(a)` (R192). -/
def decimated (m : RoundMode) (a : BitVec 15) : Nat :=
  (a.toNat >>> Config.decShift) + roundFlag m a

/-- DECIMATE(a) (R192): DEC, SCALE, LAST_SUM and BD. A reading that does not fit DEC's 12 bits, which R42 and R194
exclude, is a free value; what SCALE computes from it is not touched. DESIGN CHOICE, log 7 (safe). -/
def State.decimate (a : BitVec 15) (s : State) : State :=
  let q := decimated s.block.val.roundMode a
  { s.scale q with
    dec := if q < 2 ^ 12 then BitVec.ofNat 12 q else Config.freeReading s.edge
    lastSum := a
    bd := true }

end Sys2Proof.Machine
end

