-- ==== Sys2Proof/Machine/Filter.lean ====
section
/-! DEFINITION. The oversampling filter: FEED (spec/43_filter.md R190). -/

namespace Sys2Proof.Machine

/-- FEED (R190, R231): take the sample on the port into the batch; the 32nd sample of a batch decimates the sum and clears
the batch. Then the frame starts. -/
def execFeed (s : State) : Host.Outcome State Fault Refusal :=
  let a := s.feedSum
  let n := s.cnt.toNat + 1
  if n = Config.nSamples then
    .next { s.decimate a with acc := 0, cnt := 0, phase := Phase.setup }
  else
    .next { s.clearBd with acc := a, cnt := BitVec.ofNat 5 n, phase := Phase.setup }

end Sys2Proof.Machine
end

