-- ==== Sys2Proof/Machine/Multiplexer.lean ====
section
/-! DEFINITION. The display multiplexer (the frame engine): SETUP, HOLD, GAP_LOAD, GAP_DP, HOLD_DP, GAP_END and PAD
(spec/42_multiplexer.md). -/

namespace Sys2Proof.Machine

/-- SETUP (R152): choose the range of DISP, load position 3, start the frame timer. -/
def execSetup (s : State) : Host.Outcome State Fault Refusal :=
  let r := rangeSelect s.disp.toNat
  .next { (s.clearBd.load .p3 r.1).goto Phase.lit3 with dpp := r.2, ft := 1 }

/-- HOLD in LIT3 (R158). -/
def execHoldLit3 (s : State) : Host.Outcome State Fault Refusal :=
  .next (s.clearBd.hold Phase.gap3)

/-- HOLD in LIT2 (R158). -/
def execHoldLit2 (s : State) : Host.Outcome State Fault Refusal :=
  .next (s.clearBd.hold Phase.gap2)

/-- HOLD in LIT1 (R158). -/
def execHoldLit1 (s : State) : Host.Outcome State Fault Refusal :=
  .next (s.clearBd.hold Phase.gap1)

/-- GAP_LOAD in GAP3 (R159): load position 2. -/
def execGapLoadGap3 (s : State) : Host.Outcome State Fault Refusal :=
  .next ((s.clearBd.tickFrame.load .p2 s.fv.toNat).goto Phase.lit2)

/-- GAP_LOAD in GAP2 (R159): load position 1. -/
def execGapLoadGap2 (s : State) : Host.Outcome State Fault Refusal :=
  .next ((s.clearBd.tickFrame.load .p1 s.fv.toNat).goto Phase.lit1)

/-- GAP_DP (R160): light the decimal point for `DP_US` ticks. -/
def execGapDp (s : State) : Host.Outcome State Fault Refusal :=
  let g := dpOnehot s.dpp
  .next { s.clearBd.tickFrame.goto Phase.litDp with
    dig := g.1
    seg := g.2
    hc := BitVec.ofNat 16 (s.block.val.dpUs - 1) }

/-- HOLD_DP (R161): HOLD with GAPDP as the next phase. -/
def execHoldDp (s : State) : Host.Outcome State Fault Refusal :=
  .next (s.clearBd.hold Phase.gapDp)

/-- GAP_END (R163): end the frame at its deadline, else pad it. -/
def execGapEnd (s : State) : Host.Outcome State Fault Refusal :=
  .next s.clearBd.endOrPad

/-- PAD (R164): busy-wait to the deadline. The phase is written only at the deadline. -/
def execPad (s : State) : Host.Outcome State Fault Refusal :=
  let s' := s.clearBd.tickFrame
  .next (if s'.ft.toNat = Config.frameUs then s'.goto Phase.sample else s')

end Sys2Proof.Machine
end

