-- ==== Sys2Proof/Machine/Sequencer.lean ====
section
/-! DEFINITION. The sequencer's own operations: SAMPLE_WAIT (spec/44_sequencer.md R232), RESET
(spec/70_reset_and_hazards.md R290) and RECOVER (spec/30_encoding.md R84). -/

namespace Sys2Proof.Machine

/-- SAMPLE_WAIT (R232): nothing changes but `BD <- 0`. -/
def execSampleWait (s : State) : Host.Outcome State Fault Refusal :=
  .next s.clearBd

/-- RESET (R290): every register at its reset value. -/
def execReset (s : State) : Host.Outcome State Fault Refusal :=
  .next s.resetRegisters

/-- RECOVER at phase code 0xB (R84): everything off, back to SAMPLE. -/
def execRecoverB (s : State) : Host.Outcome State Fault Refusal :=
  .next (s.clearBd.dark.goto Phase.sample)

/-- RECOVER at phase codes 0xC to 0xF (R84): everything off, back to SAMPLE. -/
def execRecoverCF (s : State) : Host.Outcome State Fault Refusal :=
  .next (s.clearBd.dark.goto Phase.sample)

end Sys2Proof.Machine
end

