-- ==== Sys2Proof/Machine/Dispatch.lean ====
section
/-! DEFINITION. One arm per operation: the meaning of each (spec/30_encoding.md R83). -/

namespace Sys2Proof.Machine

-- The operation performed in one tick, on the state at the start of the tick (R12, R66).
def exec (i : Instr) (s : State) : Host.Outcome State Fault Refusal :=
  match i with
  | .reset _ _ => Sys2Proof.Machine.execReset s
  | .sampleWait => Sys2Proof.Machine.execSampleWait s
  | .feed => Sys2Proof.Machine.execFeed s
  | .setup _ => Sys2Proof.Machine.execSetup s
  | .holdLit3 _ => Sys2Proof.Machine.execHoldLit3 s
  | .gapLoadGap3 _ => Sys2Proof.Machine.execGapLoadGap3 s
  | .holdLit2 _ => Sys2Proof.Machine.execHoldLit2 s
  | .gapLoadGap2 _ => Sys2Proof.Machine.execGapLoadGap2 s
  | .holdLit1 _ => Sys2Proof.Machine.execHoldLit1 s
  | .gapDp _ => Sys2Proof.Machine.execGapDp s
  | .holdDp _ => Sys2Proof.Machine.execHoldDp s
  | .gapEnd _ => Sys2Proof.Machine.execGapEnd s
  | .pad _ => Sys2Proof.Machine.execPad s
  | .recoverB _ => Sys2Proof.Machine.execRecoverB s
  | .recoverCF _ _ => Sys2Proof.Machine.execRecoverCF s

end Sys2Proof.Machine
end

