-- ==== Sys2Proof/Machine/Edge.lean ====
section
/-! DEFINITION. What one clock edge does around an operation (spec/10_state.md R20): its input word is used up. -/

namespace Sys2Proof.Machine

/-- The edge has passed: its input word is gone and the next one comes (log 2). -/
def State.advance (s : State) : State := { s with stim := s.stim.tail, edge := s.edge + 1 }

/-- The operation the coming edge selects (R80, R81). -/
def State.operation (s : State) : Instr := decode s.selector

end Sys2Proof.Machine
end

