-- ==== Sys2Proof/Machine/Step.lean ====
section
/-! DEFINITION. One step: one rising edge of `clk` (spec/10_state.md R20, spec/30_encoding.md R80). -/

namespace Sys2Proof.Machine

/-- One rising edge of `clk`. With `ce = 1` or `rst = 1` it performs the operation the selector chooses; on any other edge
no operation is performed and no register changes (R80). Either way the edge's input word is used up. DEDUCED, log 1 (safe). -/
def step (s : State) : Host.Outcome State Fault Refusal :=
  if s.inputs.active then
    match exec s.operation s with
    | .next t => .next t.advance
    | .fault f => .fault f
    | .refused r => .refused r
  else .next s.advance

/-- `s` with the selector in the low 6 bits of `w` as the one the next step forms: PHASE holds its P field, and an input
word with `ce = 1` and its `rst` and V bits comes first; `adc_data`, which is no bit of the selector, is 0 (R92). An
operation that does not read PHASE runs the same way. DESIGN CHOICE, log 16 (safe). -/
def State.withFetchWord (s : State) (nbits w : Nat) : State :=
  let sel : Selector := BitVec.ofNat 6 (w % 2 ^ nbits)
  { s with
    phase := sel.phase
    stim := { ce := true, rst := sel.rst, adcValid := sel.valid, adcData := 0 } :: s.stim }

end Sys2Proof.Machine
end

