-- ==== Sys2Proof/Machine/Build.lean ====
section
/-! DEFINITION. Building a block from its parameters (spec/00_scope.md R8, spec/60_exceptions.md R262, spec/41_digit_driver.md R136). -/

namespace Sys2Proof.Machine

/-- The block with the given parameters, right after its first RESET (R296); a configuration that is not admissible is
refused here, and is not run (R8, R136, R262). -/
def State.build (p : Params) : Host.Outcome State Fault Refusal :=
  match h : p.firstError with
  | none => .next (State.ofBlock ⟨p, p.firstError_none_iff.mp h⟩)
  | some e => .refused (.inadmissible e)

end Sys2Proof.Machine
end

