-- ==== Sys2Proof/Machine/Timing.lean ====
section
/-! DEFINITION. The tick counts of a frame: its work, its length, its timeline, and the ticks a state still needs to reach
SAMPLE (spec/42_multiplexer.md R165, R166; spec/70_reset_and_hazards.md R308). No operation reads them: the script notation
of spec/30_encoding.md R93 and the statements do. -/

namespace Sys2Proof.Machine

/-- The ticks the last digit of `x` is lit for, `DUR[x % 10]` (R157, R158). -/
def digitTicks (b : Block) (x : Nat) : Nat := (patRom b (digitCode x)).dur.toNat

/-- The work `W` of the frame that shows `disp` (R165). -/
def frameWork (b : Block) (disp : Nat) : Nat :=
  let x := (rangeSelect disp).1
  digitTicks b x + digitTicks b (x / 10) + digitTicks b (x / 100) + b.val.dpUs + 5

/-- The frame length `L = max(10000, W)` (R166). -/
def frameLength (b : Block) (disp : Nat) : Nat := max Config.frameUs (frameWork b disp)

/-- The table of R165: phase, `dig` and `seg_n` in frame tick `j` of the frame that shows `disp`, for `j` below `L`. -/
def timeline (b : Block) (disp j : Nat) : PhaseCode × DigVec × SegVec :=
  let r := rangeSelect disp
  let x := r.1
  let d3 := digitTicks b x
  let d2 := digitTicks b (x / 10)
  let d1 := digitTicks b (x / 100)
  let e := b.val.dpUs
  let lit (y : Nat) : SegVec := ~~~(patRom b (digitCode y)).seg
  if j = 0 then (Phase.setup, 0b000, 0xFF)
  else if j ≤ d3 then (Phase.lit3, 0b100, lit x)
  else if j = d3 + 1 then (Phase.gap3, 0b000, 0xFF)
  else if j ≤ d3 + d2 + 1 then (Phase.lit2, 0b010, lit (x / 10))
  else if j = d3 + d2 + 2 then (Phase.gap2, 0b000, 0xFF)
  else if j ≤ d3 + d2 + d1 + 2 then (Phase.lit1, 0b001, lit (x / 100))
  else if j = d3 + d2 + d1 + 3 then (Phase.gap1, 0b000, 0xFF)
  else if j ≤ d3 + d2 + d1 + e + 3 then (Phase.litDp, (dpOnehot r.2).1, 0x7F)
  else if j = d3 + d2 + d1 + e + 4 then (Phase.gapDp, 0b000, 0xFF)
  else (Phase.pad, 0b000, 0xFF)

/-- The ticks of work a frame phase still has, its GAPDP tick included; 0 in SAMPLE, 1 in PAD and in a reserved phase
(R158 to R164). -/
def State.workLeft (s : State) : Nat :=
  let v := s.fv.toNat
  let held := s.hc.toNat + 1
  let point := s.block.val.dpUs + 1
  match s.phase.toNat with
  | 0x0 => 0
  | 0x1 => frameWork s.block s.disp.toNat
  | 0x2 => held + 1 + digitTicks s.block v + 1 + digitTicks s.block (v / 10) + 1 + point
  | 0x3 => 1 + digitTicks s.block v + 1 + digitTicks s.block (v / 10) + 1 + point
  | 0x4 => held + 1 + digitTicks s.block v + 1 + point
  | 0x5 => 1 + digitTicks s.block v + 1 + point
  | 0x6 => held + 1 + point
  | 0x7 => 1 + point
  | 0x8 => held + 1
  | _ => 1

/-- The ticks without a reset that pass before the block is in SAMPLE: none in SAMPLE, one in a reserved phase, and in a
frame phase its work or what is left of the 10000 ticks, whichever is longer (R163, R164, R166). -/
def State.ticksToSample (s : State) : Nat :=
  match s.phase.toNat with
  | 0x0 => 0
  | 0x1 => frameLength s.block s.disp.toNat
  | 0xB | 0xC | 0xD | 0xE | 0xF => 1
  | _ => max s.workLeft (Config.frameUs - s.ft.toNat)

end Sys2Proof.Machine
end

