-- ==== Sys2Proof/Machine/Stimulus.lean ====
section
/-! DEFINITION. Stimulus words and the script notation (spec/30_encoding.md R92 to R94): how a program of the block is
written and placed. -/

namespace Sys2Proof.Machine

/-- A stimulus word: bit 11 is `rst`, bit 10 is `adc_valid`, bits 9 to 0 are `adc_data` (R92). -/
abbrev StimWord := BitVec 12

/-- The input ports a stimulus word stands for; `ce = 1` is implied (R92). -/
def StimWord.inputs (w : StimWord) : Inputs where
  ce := true
  rst := w.getLsbD 11
  adcValid := w.getLsbD 10
  adcData := w.extractLsb' 0 10

/-- The stimulus word of an input word with `ce = 1`; when `adc_valid = 0` the data is written as 0 (R92). -/
def stimWord (rst valid : Bool) (data : Sample) : StimWord :=
  BitVec.ofBool rst ++ BitVec.ofBool valid ++ (if valid then data else 0#10)

/-- A directive of a stimulus script (R93). -/
inductive Directive where
  /-- One reset step. -/
  | rst
  /-- `n` steps with no sample offered. -/
  | idle (n : Nat)
  /-- Offer `v` and hold it until the block accepts it. -/
  | sample (v : Sample)
  /-- Offer nothing until the block is back in SAMPLE. -/
  | frame
deriving DecidableEq, Repr

/-- `iter v` (R94). -/
def iter (v : Sample) : List Directive := [.sample v, .frame]

/-- `repeat n body` (R94). -/
def repeatScript (n : Nat) (body : List Directive) : List Directive := (List.replicate n body).flatten

/-- `batch v` (R94). -/
def batch (v : Sample) : List Directive := repeatScript 32 (iter v)

/-- The stimulus words of one directive, given the state it starts in: the lengths of `sample` and `frame` are the ticks
to the next step in SAMPLE (R93). DEDUCED, log 21 (safe). -/
def Directive.words (d : Directive) (s : State) : List StimWord :=
  match d with
  | .rst => [0x800#12]
  | .idle n => List.replicate n 0x000#12
  | .sample v => List.replicate (s.ticksToSample + 1) (stimWord false true v)
  | .frame => List.replicate s.ticksToSample 0x000#12

/-- The state after one step driven by a stimulus word, the words already pending left as they are. -/
def State.afterWord (s : State) (w : StimWord) : State :=
  match step { s with stim := w.inputs :: s.stim } with
  | .next t => t
  | .fault _ => s
  | .refused _ => s

/-- The state after a run of stimulus words (R92). -/
def State.afterWords (s : State) (ws : List StimWord) : State := ws.foldl State.afterWord s

/-- The stimulus words of a script from a state (R93, R94). -/
def scriptWords : List Directive → State → List StimWord
  | [], _ => []
  | d :: ds, s => d.words s ++ scriptWords ds (s.afterWords (d.words s))

/-- The state with a script placed as its pending input words: how a program is given to the block from outside (log 2). -/
def State.placeScript (s : State) (ds : List Directive) : State :=
  { s with stim := (scriptWords ds s).map StimWord.inputs }

end Sys2Proof.Machine
end

