-- ==== Sys2Proof/Machine/Outputs.lean ====
section
/-! DEFINITION. The output ports: functions of the state alone (spec/10_state.md R22, spec/30_encoding.md R89). -/

namespace Sys2Proof.Machine

/-- The output ports during a tick (R22). -/
structure Outputs where
  /-- `seg_n`: a segment line is lit when LOW. -/
  segN : SegVec
  /-- `dig`: a position is enabled when HIGH. -/
  dig : DigVec
  adcReq : Bool
  batchDone : Bool
  dec : BitVec 12
  /-- `vmv`, `VMV_W` bits wide (log 8). -/
  vmv : Nat
  disp : BitVec 14
  ovf : Bool
  lastSum : BitVec 15
deriving DecidableEq, Repr

/-- What the ports show in state `s`, whatever the inputs (R13, R22). -/
def State.outputs (s : State) : Outputs where
  segN := ~~~s.seg
  dig := s.dig
  adcReq := s.phase == Phase.sample
  batchDone := s.bd
  dec := s.dec
  vmv := s.vmv
  disp := s.disp
  ovf := s.ovf
  lastSum := s.lastSum

end Sys2Proof.Machine
end

