-- ==== Sys2Proof/Safety.lean ====
section
/-! DEFINITION. What a safe run of the block is, in the terms the statements use: the invariants of its reachable states
(spec/10_state.md R42 and what files 42 and 43 derive), and the obligations of its environment (spec/70_reset_and_hazards.md
R304, R305). -/

namespace Sys2Proof.Machine

/-- A digit sub-frame is lit: LIT3, LIT2 or LIT1. -/
abbrev State.litDigit (s : State) : Prop :=
  s.phase = Phase.lit3 ∨ s.phase = Phase.lit2 ∨ s.phase = Phase.lit1

/-- A line is lit: a digit sub-frame or the decimal point. -/
abbrev State.lit (s : State) : Prop := s.litDigit ∨ s.phase = Phase.litDp

/-- The invariant of R42, item by item. -/
structure State.Inv (s : State) : Prop where
  /-- Item 1: `CNT < 32` (its width) and `ACC <= 1023 * CNT`. -/
  sumBound : s.acc.toNat ≤ 1023 * s.cnt.toNat
  /-- Item 2: the phase is one of 0x0 to 0xA. -/
  phaseRange : s.phase.toNat ≤ 0xA
  /-- Item 3: at most one bit of DIG is 1. -/
  oneLine : s.dig = 0b000 ∨ s.dig = 0b001 ∨ s.dig = 0b010 ∨ s.dig = 0b100
  /-- Item 3: DIG is not 0 exactly in the lit phases. -/
  lineIffLit : s.dig ≠ 0b000 ↔ s.lit
  /-- Item 4: with no line enabled no segment is on. -/
  darkSeg : s.dig = 0b000 → s.seg = 0x00
  /-- Item 4: no decimal point in a digit sub-frame. -/
  noPoint : s.litDigit → s.seg.getLsbD 7 = false
  /-- Item 4: the decimal point alone in LITDP. -/
  pointOnly : s.phase = Phase.litDp → s.seg = 0x80
  /-- Item 5. -/
  timerRange : s.ft.toNat ≤ 10000
  /-- Item 5. -/
  valueRange : s.fv.toNat ≤ 999
  /-- Item 5. -/
  dispRange : s.disp.toNat ≤ 9999
  /-- Item 6: from LIT3 to PAD the decimal places are 1 or 2. -/
  places : 0x2 ≤ s.phase.toNat → s.phase.toNat ≤ 0xA → s.dpp = 1 ∨ s.dpp = 2
  /-- Item 7: in a lit phase `HC <= 65535` (its width). -/
  holdRange : s.lit → s.hc.toNat ≤ 65535

/-- The readings are those of the last completed batch, whose sum is LAST_SUM (R192, R193, R196, R197, R199); all 0 before
the first batch. -/
structure State.ReadingsFollow (s : State) : Prop where
  sumRange : s.lastSum.toNat ≤ 32 * 1023
  reading : s.dec.toNat = s.lastSum.toNat / 8 +
    (match s.block.val.roundMode with
      | .bitTest => s.lastSum.toNat / 4 % 2
      | .legacyAnd => if s.lastSum.toNat = 0 then 0 else 1)
  voltage : s.vmv = s.dec.toNat * s.block.val.fsMv / 4092
  display : s.disp.toNat = min 9999 (s.vmv / 10)
  overflow : s.ovf = true ↔ 9999 < s.vmv / 10

/-- `batch_done` is HIGH only in the SETUP tick after the completing FEED, which left the batch empty (R198, R200). -/
def State.BatchDoneInSetup (s : State) : Prop :=
  s.bd = true → s.phase = Phase.setup ∧ s.acc = 0 ∧ s.cnt = 0

/-- What a lit position shows and what is still to come are digits of the frame's value `x`, where RangeSelect gives `x` and
the places from DISP (R154, R156, R169). -/
structure State.FrameShows (s : State) : Prop where
  /-- From LIT3 to PAD the decimal places are those of DISP. -/
  places : 0x2 ≤ s.phase.toNat → s.phase.toNat ≤ 0xA → s.dpp = (rangeSelect s.disp.toNat).2
  /-- Position 3 shows `x % 10`. -/
  third : s.phase = Phase.lit3 →
    s.dig = 0b100 ∧ s.seg = (patRom s.block (digitCode (rangeSelect s.disp.toNat).1)).seg
  /-- Two digits are left. -/
  restTwo : s.phase = Phase.lit3 ∨ s.phase = Phase.gap3 → s.fv.toNat = (rangeSelect s.disp.toNat).1 / 10
  /-- Position 2 shows `(x / 10) % 10`. -/
  second : s.phase = Phase.lit2 →
    s.dig = 0b010 ∧ s.seg = (patRom s.block (digitCode ((rangeSelect s.disp.toNat).1 / 10))).seg
  /-- One digit is left. -/
  restOne : s.phase = Phase.lit2 ∨ s.phase = Phase.gap2 → s.fv.toNat = (rangeSelect s.disp.toNat).1 / 100
  /-- Position 1 shows `(x / 100) % 10`. -/
  first : s.phase = Phase.lit1 →
    s.dig = 0b001 ∧ s.seg = (patRom s.block (digitCode ((rangeSelect s.disp.toNat).1 / 100))).seg
  /-- No digit is left. -/
  restNone : s.phase = Phase.lit1 ∨ s.phase = Phase.gap1 → s.fv.toNat = 0
  /-- The decimal point stands where the places put it. -/
  point : s.phase = Phase.litDp → s.dig = (dpOnehot (rangeSelect s.disp.toNat).2).1 ∧ s.seg = 0x80

/-- A safe state: every invariant above holds. -/
structure State.Safe (s : State) : Prop where
  inv : s.Inv
  readings : s.ReadingsFollow
  batchDone : s.BatchDoneInSetup
  shows : s.FrameShows

/-- The coming n edges are ticks of normal running: `ce = 1` and `rst = 0` on each, any sample offered or not. -/
def State.RunsFor (s : State) (n : Nat) : Prop := ∀ j < n, (s.inputsAt j).running = true

/-- The coming edge transfers a sample (R231). -/
def State.transfers (s : State) : Bool :=
  s.inputs.running && s.inputs.adcValid && s.phase == Phase.sample

/-- The ADC source's obligation (R304) on the coming n edges: a sample that is offered and not transferred is still
offered, unchanged, on the next edge. R304 asks that `adc_data` be stable while `adc_valid = 1`; whether the source may
withdraw the offer, by dropping `adc_valid` before the transfer, it does not say. That `adc_valid` stays 1 is the model's
own reading: DESIGN CHOICE, log 24 (unsafe as a premise). Nothing in the step relies on either part (log 12). -/
def State.AdcHolds (s : State) (n : Nat) : Prop :=
  ∀ j < n, ∀ t, Host.Core.run Sys2Proof.core j s = .next t →
    t.inputs.adcValid = true → t.transfers = false →
    (t.inputsAt 1).adcValid = true ∧ (t.inputsAt 1).adcData = t.inputs.adcData

/-- FEEDs of the listed samples, one after another, with nothing between them: what a run of samples leaves in the filter
(R190, R191). -/
def feedAll : List Sample → State → Host.Outcome State Fault Refusal
  | [], s => .next s
  | v :: vs, s =>
    match exec .feed { s with stim := { ce := true, rst := false, adcValid := true, adcData := v } :: s.stim } with
    | .next t => feedAll vs { t with stim := s.stim }
    | .fault f => .fault f
    | .refused r => .refused r

end Sys2Proof.Machine
end

