-- ==== Sys2Proof/Certificates/Slice0/Obligations.lean ====
section
/-! DEFINITION. The statements for the provers. Each cites, in its docstring, the rule of spec/ it formalises or rests on. -/

open Sys2Proof Sys2Proof.Machine

/- ==== Decoding ==== -/

/-- Selectors written out bit by bit from R80, R83 and R84 decode to the operations they stand for: one or more per family. -/
def Obligations.WrittenSelectorsDecode : Prop :=
  decode 0b100000#6 = .reset false 0x0#4 ∧ decode 0b110111#6 = .reset true 0x7#4 ∧
  decode 0b000000#6 = .sampleWait ∧ decode 0b010000#6 = .feed ∧
  decode 0b000001#6 = .setup false ∧ decode 0b010010#6 = .holdLit3 true ∧
  decode 0b000101#6 = .gapLoadGap2 false ∧ decode 0b010111#6 = .gapDp true ∧
  decode 0b001000#6 = .holdDp false ∧ decode 0b011001#6 = .gapEnd true ∧
  decode 0b001010#6 = .pad false ∧ decode 0b001011#6 = .recoverB false ∧
  decode 0b011110#6 = .recoverCF true 0b10#2

/-- R80, R83, R91: no selector is illegal; each belongs to the row of the operation it decodes to and to no other row, and
no bit of it is dropped. -/
def Obligations.EverySelectorHasExactlyOneRow : Prop :=
  ∀ w : Selector, (decode w).row.matches w = true ∧ encode (decode w) = w ∧
    ∀ i : Instr, i.row.matches w = true → i.row = (decode w).row

/-- Decode and encode agree on every operation, with every operand at every value, as a selector, as the byte that holds it,
and as a word of the opcode table; and the encoding is in the operation's row. -/
def Obligations.DecodeInvertsEncode : Prop :=
  ∀ i : Instr, i.wellFormed = true →
    decode (encode i) = i ∧ i.row.matches (encode i) = true ∧
    decodeBytes [(encode i).setWidth 8] = .ok i ∧ decodeTableWord 8 (encode i).toNat = some i

/- ==== The step ==== -/

/-- R80, R81: on an edge with `ce = 1` or `rst = 1` the step is the selected operation on the state at the start of the tick,
and the edge's input word is used up. -/
def Obligations.StepRunsSelectedOperation : Prop :=
  ∀ (s : State) (i : Instr), s.inputs.ce = true ∨ s.inputs.rst = true →
    decode (Selector.pack s.inputs.rst s.inputs.adcValid s.phase) = i →
    ∃ t, exec i s = .next t ∧ step s = .next { t with stim := s.stim.tail, edge := s.edge + 1 }

/-- R80: on any other edge no operation is performed and no register changes. -/
def Obligations.EdgeWithoutTickChangesNoRegister : Prop :=
  ∀ s : State, s.inputs.ce = false → s.inputs.rst = false →
    step s = .next { s with stim := s.stim.tail, edge := s.edge + 1 }

/-- R260: every operation is defined for every state and every input, so no operation and no edge stops the block. -/
def Obligations.EveryOperationIsTotal : Prop :=
  ∀ s : State, (∀ i : Instr, ∃ t, exec i s = .next t) ∧ ∃ t, step s = .next t

/-- Placing any operation's selector with `withFetchWord` makes the very next step run exactly that operation. -/
def Obligations.PlacedSelectorIsRunNext : Prop :=
  ∀ (s t : State) (i : Instr), exec i (s.withFetchWord 8 (encode i).toNat) = .next t →
    step (s.withFetchWord 8 (encode i).toNat) = .next { t with stim := s.stim, edge := s.edge + 1 }

/-- R233: the phase succession. With `rst = 1` the next phase is SAMPLE; otherwise the table, row by row. -/
def Obligations.PhaseSuccession : Prop :=
  ∀ s : State, s.inputs.ce = true ∨ s.inputs.rst = true → ∃ t, step s = .next t ∧
    (s.inputs.rst = true → t.phase = 0x0#4) ∧
    (s.inputs.rst = false →
      (s.phase = 0x0#4 → t.phase = if s.inputs.adcValid then 0x1#4 else 0x0#4) ∧
      (s.phase = 0x1#4 → t.phase = 0x2#4) ∧
      (s.phase = 0x2#4 → t.phase = if s.hc.toNat = 0 then 0x3#4 else 0x2#4) ∧
      (s.phase = 0x3#4 → t.phase = 0x4#4) ∧
      (s.phase = 0x4#4 → t.phase = if s.hc.toNat = 0 then 0x5#4 else 0x4#4) ∧
      (s.phase = 0x5#4 → t.phase = 0x6#4) ∧
      (s.phase = 0x6#4 → t.phase = if s.hc.toNat = 0 then 0x7#4 else 0x6#4) ∧
      (s.phase = 0x7#4 → t.phase = 0x8#4) ∧
      (s.phase = 0x8#4 → t.phase = if s.hc.toNat = 0 then 0x9#4 else 0x8#4) ∧
      (s.phase = 0x9#4 → t.phase = if min (s.ft.toNat + 1) 10000 = 10000 then 0x0#4 else 0xA#4) ∧
      (s.phase = 0xA#4 → t.phase = if min (s.ft.toNat + 1) 10000 = 10000 then 0x0#4 else 0xA#4) ∧
      (0xB ≤ s.phase.toNat → t.phase = 0x0#4))

/- ==== Reset ==== -/

/-- R290: RESET gives every register its reset value, from every state, and it is performed on every edge with `rst = 1`,
whatever `ce`, `adc_valid` and PHASE hold. -/
def Obligations.ResetClearsEveryRegister : Prop :=
  ∀ (s : State) (v : Bool) (p : PhaseCode),
    exec (.reset v p) s = .next { s with
      acc := 0, cnt := 0, dec := 0, vmv := 0, disp := 0, ovf := false, lastSum := 0, bd := false,
      phase := 0x0#4, hc := 0, ft := 0, fv := 0, dpp := 0, seg := 0x00#8, dig := 0b000#3 } ∧
    (s.inputs.rst = true → step s = .next { s with
      acc := 0, cnt := 0, dec := 0, vmv := 0, disp := 0, ovf := false, lastSum := 0, bd := false,
      phase := 0x0#4, hc := 0, ft := 0, fv := 0, dpp := 0, seg := 0x00#8, dig := 0b000#3,
      stim := s.stim.tail, edge := s.edge + 1 })

/-- R292: after RESET the block is in SAMPLE with `adc_req = 1`, the display off and `batch_done = 0`, and on the next edge
without reset it selects SAMPLE_WAIT or FEED. -/
def Obligations.AfterResetTheBlockAsksForASample : Prop :=
  ∀ (s t : State), s.inputs.rst = true → step s = .next t →
    t.phase = 0x0#4 ∧ t.outputs.adcReq = true ∧ t.outputs.segN = 0xFF#8 ∧ t.outputs.dig = 0b000#3 ∧
    t.outputs.batchDone = false ∧
    (t.inputs.rst = false → t.operation = .sampleWait ∨ t.operation = .feed)

/-- The consequence the spec draws in R293: while `rst` is held, the state stays the reset state, whatever the other inputs. -/
def Obligations.HeldResetKeepsTheResetState : Prop :=
  ∀ (n : Nat) (s : State), (∀ j < n + 1, (s.inputsAt j).rst = true) →
    Host.Core.run core (n + 1) s =
      .next { State.ofBlock s.block with stim := s.stim.drop (n + 1), edge := s.edge + (n + 1) }

/-- R8, R262: an admissible configuration is built into a block in its reset state; any other is refused by name. -/
def Obligations.OnlyAdmissibleConfigurationsAreBuilt : Prop :=
  ∀ p : Params,
    (∀ h : p.Admissible, State.build p = .next (State.ofBlock ⟨p, h⟩)) ∧
    (¬ p.Admissible → ∃ e, p.firstError = some e ∧ State.build p = .refused (.inadmissible e))

/-- R41, R70: no operation and no step changes the configuration, and with it the pattern ROM. -/
def Obligations.ConfigurationNeverChanges : Prop :=
  ∀ s t : State, (∀ i : Instr, exec i s = .next t → t.block = s.block) ∧ (step s = .next t → t.block = s.block)

/- ==== The sequencer ==== -/

/-- R232: SAMPLE_WAIT changes nothing but BD; in SAMPLE the block asks for a sample, and in a state that R42 admits the
display is off. -/
def Obligations.SampleWaitOnlyClearsBatchDone : Prop :=
  ∀ s : State, exec .sampleWait s = .next { s with bd := false } ∧
    (s.phase = 0x0#4 → s.outputs.adcReq = true ∧
      (s.Inv → s.outputs.segN = 0xFF#8 ∧ s.outputs.dig = 0b000#3))

/-- R232: the wait has no bound and no timeout: as long as no sample is offered the block stays in SAMPLE. -/
def Obligations.WaitingForASampleHasNoTimeout : Prop :=
  ∀ (n : Nat) (s : State), s.phase = 0x0#4 →
    (∀ j < n + 1, (s.inputsAt j).running = true ∧ (s.inputsAt j).adcValid = false) →
    Host.Core.run core (n + 1) s =
      .next { s with bd := false, stim := s.stim.drop (n + 1), edge := s.edge + (n + 1) }

/-- R84: RECOVER turns the display off and goes to SAMPLE, and keeps the readings and the batch. -/
def Obligations.RecoverGoesDarkToSample : Prop :=
  ∀ (s : State) (v : Bool) (low : BitVec 2),
    ∀ i ∈ [Instr.recoverB v, Instr.recoverCF v low],
      exec i s = .next { s with seg := 0x00#8, dig := 0b000#3, phase := 0x0#4, bd := false } ∧
      (s.inputs.running = true → s.operation = i →
        0xB ≤ s.phase.toNat ∧ step s = .next { s with
          seg := 0x00#8, dig := 0b000#3, phase := 0x0#4, bd := false, stim := s.stim.tail, edge := s.edge + 1 })

/-- The consequence the spec draws in R234: outside SAMPLE neither `adc_valid` nor `adc_data` has any effect. Two states that
differ only in what the ADC source drives on the coming edge step to the same state. -/
def Obligations.AdcInputsHaveNoEffectOutsideSample : Prop :=
  ∀ (s : State) (x y : Inputs) (rest : List Inputs), s.phase ≠ 0x0#4 → x.ce = y.ce → x.rst = y.rst →
    ∃ t, step { s with stim := x :: rest } = .next t ∧ step { s with stim := y :: rest } = .next t

/- ==== The filter ==== -/

/-- R190: a FEED that does not complete the batch, where the sum fits its 15 bits (R201). -/
def Obligations.FeedTakesTheSampleIntoTheBatch : Prop :=
  ∀ s : State, s.cnt.toNat ≠ 31 → s.acc.toNat + s.inputs.adcData.toNat < 2 ^ 15 →
    ∃ t, exec .feed s = .next t ∧
      t.acc.toNat = s.acc.toNat + s.inputs.adcData.toNat ∧ t.cnt.toNat = s.cnt.toNat + 1 ∧
      t = { s with acc := t.acc, cnt := t.cnt, bd := false, phase := 0x1#4 }

/-- R190, R192, R193, R196, R197: the FEED that completes the batch, for every sum that R42 admits, in both rounding modes. -/
def Obligations.FeedCompletesTheBatch : Prop :=
  ∀ s : State, s.cnt.toNat = 31 → s.acc.toNat + s.inputs.adcData.toNat ≤ 32736 →
    ∃ t, exec .feed s = .next t ∧
      t.lastSum.toNat = s.acc.toNat + s.inputs.adcData.toNat ∧
      (s.block.val.roundMode = .bitTest →
        t.dec.toNat = t.lastSum.toNat / 2 ^ 3 + (if t.lastSum.getLsbD 2 then 1 else 0)) ∧
      (s.block.val.roundMode = .legacyAnd →
        t.dec.toNat = t.lastSum.toNat / 2 ^ 3 + (if t.lastSum.toNat ≠ 0 then 1 else 0)) ∧
      t.vmv = t.dec.toNat * s.block.val.fsMv / 4092 ∧
      (if 9999 < t.vmv / 10 then t.disp.toNat = 9999 ∧ t.ovf = true
        else t.disp.toNat = t.vmv / 10 ∧ t.ovf = false) ∧
      t = { s with
        acc := 0, cnt := 0, dec := t.dec, vmv := t.vmv, disp := t.disp, ovf := t.ovf,
        lastSum := t.lastSum, bd := true, phase := 0x1#4 }

/-- The model's choice for states that R42 excludes (logs 6 and 7): where the sum does not fit 15 bits, or the reading 12,
that one value is unconstrained, and FEED still completes with every other effect. Without any hypothesis on the sum. Where
the reading fits 12 bits, DEC is the reading. -/
def Obligations.FeedCompletesWhateverTheSum : Prop :=
  ∀ s : State, ∃ (t : State) (a : BitVec 15), exec .feed s = .next t ∧
    (s.acc.toNat + s.inputs.adcData.toNat < 2 ^ 15 → a.toNat = s.acc.toNat + s.inputs.adcData.toNat) ∧
    (s.cnt.toNat ≠ 31 → t = { s with acc := a, cnt := s.cnt + 1, bd := false, phase := 0x1#4 }) ∧
    (s.cnt.toNat = 31 →
      (decimated s.block.val.roundMode a < 2 ^ 12 → t.dec.toNat = decimated s.block.val.roundMode a) ∧
      t.vmv = decimated s.block.val.roundMode a * s.block.val.fsMv / 4092 ∧
      t.disp.toNat = min 9999 (t.vmv / 10) ∧ (t.ovf = true ↔ 9999 < t.vmv / 10) ∧
      t = { s with
        acc := 0, cnt := 0, dec := t.dec, vmv := t.vmv, disp := t.disp, ovf := t.ovf,
        lastSum := a, bd := true, phase := 0x1#4 })

/-- The consequence the spec draws in R194: under `BIT_TEST` the reading is the sum over 8 rounded half up, at most 4092;
under `LEGACY_AND` it is at most 4093. -/
def Obligations.DecimationRoundsHalfUp : Prop :=
  ∀ a : BitVec 15,
    decimated .bitTest a = (a.toNat + 4) / 8 ∧
    decimated .legacyAnd a = a.toNat / 8 + (if a.toNat ≠ 0 then 1 else 0) ∧
    (a.toNat ≤ 32736 → decimated .bitTest a ≤ 4092 ∧ decimated .legacyAnd a ≤ 4093)

/-- The consequence the spec draws in R191: from an empty batch, 32 samples give a batch that is exactly their sum, and
fewer give no reading. -/
def Obligations.BatchIsTheSumOf32Samples : Prop :=
  ∀ (vs : List Sample) (s : State), s.acc = 0 → s.cnt = 0 → 1 ≤ vs.length → vs.length ≤ 32 →
    ∃ t, feedAll vs s = .next t ∧
      (vs.length = 32 → t.lastSum.toNat = (vs.map (·.toNat)).sum ∧ t.bd = true ∧ t.acc = 0 ∧ t.cnt = 0) ∧
      (vs.length < 32 → t.acc.toNat = (vs.map (·.toNat)).sum ∧ t.cnt.toNat = vs.length ∧ t.bd = false ∧
        t.dec = s.dec ∧ t.vmv = s.vmv ∧ t.disp = s.disp ∧ t.ovf = s.ovf ∧ t.lastSum = s.lastSum)

/-- The consequence the spec draws in R195: 32 identical samples `v` read `4 v` under `BIT_TEST`, and one more under
`LEGACY_AND` unless `v` is 0. -/
def Obligations.IdenticalSamplesReadFourTimesTheValue : Prop :=
  ∀ (v : Sample) (s : State), s.acc = 0 → s.cnt = 0 →
    ∃ t, feedAll (List.replicate 32 v) s = .next t ∧ t.lastSum.toNat = 32 * v.toNat ∧
      (s.block.val.roundMode = .bitTest → t.dec.toNat = 4 * v.toNat) ∧
      (s.block.val.roundMode = .legacyAnd → t.dec.toNat = 4 * v.toNat + (if v.toNat ≠ 0 then 1 else 0))

/-- The consequences the spec draws in R197: the display value is `(q * FS_MV) / 40920` clamped, the clamp engages exactly
from `q * FS_MV = 409200000`, so from a full scale of 100000 mV under `BIT_TEST` and of 99976 mV under `LEGACY_AND`. -/
def Obligations.ClampEngagesAtFullScale : Prop :=
  ∀ s : State, s.cnt.toNat = 31 → s.acc.toNat + s.inputs.adcData.toNat ≤ 32736 →
    ∃ t, exec .feed s = .next t ∧
      t.disp.toNat = min 9999 (t.dec.toNat * s.block.val.fsMv / 40920) ∧
      (t.ovf = true ↔ 409200000 ≤ t.dec.toNat * s.block.val.fsMv) ∧
      (s.block.val.roundMode = .bitTest → s.block.val.fsMv < 100000 → t.ovf = false) ∧
      (s.block.val.roundMode = .legacyAnd → s.block.val.fsMv < 99976 → t.ovf = false) ∧
      (s.acc.toNat + s.inputs.adcData.toNat = 32736 →
        (s.block.val.roundMode = .bitTest → 100000 ≤ s.block.val.fsMv → t.ovf = true) ∧
        (s.block.val.roundMode = .legacyAnd → 99976 ≤ s.block.val.fsMv → t.ovf = true))

/-- R24 to R30 (each register's writer): only FEED and RESET write the filter's registers; every other operation keeps the
batch and the last reading. -/
def Obligations.OnlyFeedAndResetWriteTheFilter : Prop :=
  ∀ (s t : State) (i : Instr), i ≠ .feed → (∀ v p, i ≠ .reset v p) → exec i s = .next t →
    t.acc = s.acc ∧ t.cnt = s.cnt ∧ t.dec = s.dec ∧ t.vmv = s.vmv ∧ t.disp = s.disp ∧ t.ovf = s.ovf ∧
    t.lastSum = s.lastSum ∧ t.bd = false

/-- R37, R38 and R162: the sample operations write neither the display nor a frame register. -/
def Obligations.SamplingKeepsTheFrameRegisters : Prop :=
  ∀ (s t : State) (i : Instr), i = .feed ∨ i = .sampleWait → exec i s = .next t →
    t.seg = s.seg ∧ t.dig = s.dig ∧ t.hc = s.hc ∧ t.ft = s.ft ∧ t.fv = s.fv ∧ t.dpp = s.dpp

/-- R67, R198 and R301: a FEED that completes a batch raises `batch_done` for exactly one tick, and the SETUP of that tick
already reads the new display value. -/
def Obligations.SetupReadsTheFreshReading : Prop :=
  ∀ s : State, s.RunsFor 2 → s.transfers = true → s.cnt.toNat = 31 →
    ∃ t u, step s = .next t ∧ step t = .next u ∧
      t.outputs.batchDone = true ∧ t.outputs.adcReq = false ∧ t.phase = 0x1#4 ∧
      u.outputs.batchDone = false ∧ u.disp = t.disp ∧ u.dpp = (rangeSelect t.disp.toNat).2 ∧
      u.dig = 0b100#3 ∧ u.seg = (patRom s.block (digitCode (rangeSelect t.disp.toNat).1)).seg

/- ==== The pattern ROM and the digit driver ==== -/

/-- The glyph rows of R111 as the spec tabulates them; all but the 7 segments of digit 8 and the count of digit 1 are the
spec's general knowledge (G1, log 18). The duration field of a digit is `DUR[d]` (R112). -/
def Obligations.PatternRomHoldsTheGlyphTable : Prop :=
  ∀ b : Block,
    (patRom b 0x0).seg = 0x3F#8 ∧ (patRom b 0x1).seg = 0x06#8 ∧ (patRom b 0x2).seg = 0x5B#8 ∧
    (patRom b 0x3).seg = 0x4F#8 ∧ (patRom b 0x4).seg = 0x66#8 ∧ (patRom b 0x5).seg = 0x6D#8 ∧
    (patRom b 0x6).seg = 0x7D#8 ∧ (patRom b 0x7).seg = 0x07#8 ∧ (patRom b 0x8).seg = 0x7F#8 ∧
    (patRom b 0x9).seg = 0x6F#8 ∧
    ∀ d : Fin 10, (patRom b (BitVec.ofNat 4 d)).dur.toNat = b.val.dur d

/-- R114: Blank reads as all off with duration 0; R115: so do the reserved codes 0xA to 0xE, where the model takes the effect
of R115 and not the fault that note I10 also allows (log 11). -/
def Obligations.BlankAndReservedCodesAreDark : Prop :=
  ∀ (b : Block) (c : PatCode), 0xA ≤ c.toNat → (patRom b c).seg = 0x00#8 ∧ (patRom b c).dur.toNat = 0

/-- R113: no entry of the pattern ROM lights the decimal point. -/
def Obligations.NoRomEntryLightsThePoint : Prop :=
  ∀ (b : Block) (c : PatCode), (patRom b c).seg.getLsbD 7 = false

/-- The segment counts the spec derives in R117. -/
def Obligations.SegmentCountsOfTheGlyphs : Prop :=
  ∀ b : Block,
    [segmentCount b 0, segmentCount b 1, segmentCount b 2, segmentCount b 3, segmentCount b 4,
      segmentCount b 5, segmentCount b 6, segmentCount b 7, segmentCount b 8, segmentCount b 9] =
      [6, 2, 5, 5, 4, 5, 6, 3, 7, 6]

/-- R131: `DUR[d]` is the floor of the exact quotient `BASE_US / SCALE[d]`. -/
def Obligations.DurationIsTheFloorOfTheQuotient : Prop :=
  ∀ (b : Block) (d : Fin 10),
    (b.val.dur d : ℤ) = ⌊(b.val.baseUs : ℚ) / ((b.val.scale[d].num : ℚ) / (b.val.scale[d].den : ℚ))⌋

/-- The brightness ordering the spec derives in R135 and R136: digit 8 lasts `BASE_US`, no digit longer, digit 1 shorter,
every digit at least one tick; and the ROM holds these values unchanged in its 17 bits. -/
def Obligations.DigitEightLastsLongest : Prop :=
  ∀ b : Block, b.val.dur 8 = b.val.baseUs ∧ b.val.dur 1 < b.val.dur 8 ∧
    ∀ d : Fin 10, 1 ≤ b.val.dur d ∧ b.val.dur d ≤ b.val.dur 8 ∧
      (patRom b (BitVec.ofNat 4 d)).dur.toNat = b.val.dur d

/-- R130, R132, R134: DRIVE writes SEG, all 8 bits of it, and nothing else (not DIG), and gives the hold duration; a Blank
or reserved code turns every segment off and gives 0. -/
def Obligations.DriveWritesOnlyTheSegments : Prop :=
  ∀ (s : State) (c : PatCode),
    s.drive c = ({ s with seg := (patRom s.block c).seg }, (patRom s.block c).dur) ∧
    (0xA ≤ c.toNat → (s.drive c).1.seg = 0x00#8 ∧ (s.drive c).2.toNat = 0)

/- ==== The display multiplexer ==== -/

/-- R153: RangeSelect. -/
def Obligations.RangeSelectKeepsThreeDigits : Prop :=
  ∀ v : Nat, v ≤ 9999 →
    (if v < 1000 then rangeSelect v = (v, 2#2) else rangeSelect v = (v / 10, 1#2)) ∧ (rangeSelect v).1 ≤ 999

/-- R156: dpOnehot, all four codes. -/
def Obligations.PointPositionFollowsThePlaces : Prop :=
  dpOnehot 2#2 = (0b001#3, 0x80#8) ∧ dpOnehot 1#2 = (0b010#3, 0x80#8) ∧
  dpOnehot 0#2 = (0b100#3, 0x80#8) ∧ dpOnehot 3#2 = (0b000#3, 0x00#8)

/-- R152, R157: SETUP, for every DISP that R28 admits; the tick itself is dark in a state that R42 admits. -/
def Obligations.SetupStartsTheFrame : Prop :=
  ∀ (s : State) (v : Bool), s.disp.toNat ≤ 9999 → ∃ t, exec (.setup v) s = .next t ∧
    (s.Inv → s.phase = 0x1#4 → s.outputs.segN = 0xFF#8 ∧ s.outputs.dig = 0b000#3) ∧
    (if s.disp.toNat < 1000 then t.dpp = 2 ∧ t.fv.toNat = s.disp.toNat / 10
      else t.dpp = 1 ∧ t.fv.toNat = s.disp.toNat / 10 / 10) ∧
    t.seg = (patRom s.block (BitVec.ofNat 4 ((rangeSelect s.disp.toNat).1 % 10))).seg ∧
    t.hc.toNat + 1 = (patRom s.block (BitVec.ofNat 4 ((rangeSelect s.disp.toNat).1 % 10))).dur.toNat ∧
    t.ft.toNat = 1 ∧
    t = { s with
      dpp := t.dpp, fv := t.fv, seg := t.seg, dig := 0b100#3, hc := t.hc, ft := t.ft, phase := 0x2#4, bd := false }

/-- R158, R161: HOLD in the three digit phases and HOLD_DP. -/
def Obligations.HoldCountsDownThenGoesDark : Prop :=
  ∀ (s : State) (v : Bool),
    ∀ p ∈ [(Instr.holdLit3 v, 0x3#4), (Instr.holdLit2 v, 0x5#4), (Instr.holdLit1 v, 0x7#4), (Instr.holdDp v, 0x9#4)],
      ∃ t, exec p.1 s = .next t ∧ t.ft.toNat = min (s.ft.toNat + 1) 10000 ∧
        (s.hc.toNat = 0 →
          t = { s with ft := t.ft, seg := 0x00#8, dig := 0b000#3, phase := p.2, bd := false }) ∧
        (s.hc.toNat ≠ 0 → t.hc.toNat + 1 = s.hc.toNat ∧ t = { s with ft := t.ft, hc := t.hc, bd := false })

/-- R159, R157: GAP_LOAD in GAP3 (position 2) and in GAP2 (position 1); the tick itself is dark in a state that R42 admits. -/
def Obligations.GapLoadsTheNextPosition : Prop :=
  ∀ (s : State) (v : Bool),
    (s.Inv → s.phase = 0x3#4 ∨ s.phase = 0x5#4 → s.outputs.segN = 0xFF#8 ∧ s.outputs.dig = 0b000#3) ∧
    ∀ p ∈ [(Instr.gapLoadGap3 v, 0b010#3, 0x4#4), (Instr.gapLoadGap2 v, 0b001#3, 0x6#4)],
      ∃ t, exec p.1 s = .next t ∧ t.ft.toNat = min (s.ft.toNat + 1) 10000 ∧
        t.seg = (patRom s.block (BitVec.ofNat 4 (s.fv.toNat % 10))).seg ∧
        t.hc.toNat + 1 = (patRom s.block (BitVec.ofNat 4 (s.fv.toNat % 10))).dur.toNat ∧
        t.fv.toNat = s.fv.toNat / 10 ∧
        t = { s with
          ft := t.ft, seg := t.seg, dig := p.2.1, hc := t.hc, fv := t.fv, phase := p.2.2, bd := false }

/-- R160, R156: GAP_DP, for every DPP code. -/
def Obligations.GapLightsTheDecimalPoint : Prop :=
  ∀ (s : State) (v : Bool), ∃ t, exec (.gapDp v) s = .next t ∧
    t.ft.toNat = min (s.ft.toNat + 1) 10000 ∧ t.hc.toNat + 1 = s.block.val.dpUs ∧
    (s.dpp = 2 → t.dig = 0b001#3 ∧ t.seg = 0x80#8) ∧ (s.dpp = 1 → t.dig = 0b010#3 ∧ t.seg = 0x80#8) ∧
    (s.dpp = 0 → t.dig = 0b100#3 ∧ t.seg = 0x80#8) ∧ (s.dpp = 3 → t.dig = 0b000#3 ∧ t.seg = 0x00#8) ∧
    t = { s with ft := t.ft, seg := t.seg, dig := t.dig, hc := t.hc, phase := 0x8#4, bd := false }

/-- R163: GAP_END. -/
def Obligations.GapEndPadsOrEndsTheFrame : Prop :=
  ∀ (s : State) (v : Bool), ∃ t, exec (.gapEnd v) s = .next t ∧ t.ft.toNat = min (s.ft.toNat + 1) 10000 ∧
    t = { s with ft := t.ft, phase := if t.ft.toNat = 10000 then 0x0#4 else 0xA#4, bd := false }

/-- R164: PAD. -/
def Obligations.PadWaitsForTheDeadline : Prop :=
  ∀ (s : State) (v : Bool), ∃ t, exec (.pad v) s = .next t ∧ t.ft.toNat = min (s.ft.toNat + 1) 10000 ∧
    t = { s with ft := t.ft, phase := if t.ft.toNat = 10000 then 0x0#4 else s.phase, bd := false }

/-- R22, R89: the output ports as functions of the state. -/
def Obligations.OutputPortsShowTheRegisters : Prop :=
  ∀ s : State,
    (∀ i < 8, s.outputs.segN.getLsbD i = !s.seg.getLsbD i) ∧ s.outputs.dig = s.dig ∧
    (s.outputs.adcReq = true ↔ s.phase = 0x0#4) ∧ s.outputs.batchDone = s.bd ∧ s.outputs.dec = s.dec ∧
    s.outputs.vmv = s.vmv ∧ s.outputs.disp = s.disp ∧ s.outputs.ovf = s.ovf ∧ s.outputs.lastSum = s.lastSum

/- ==== Invariants ==== -/

/-- The reset state is safe: it meets R42 and every other invariant of Safety.lean. -/
def Obligations.ResetStateIsSafe : Prop := State.reset.Safe

/-- The consequence the spec draws in R42: every step keeps its seven items, from every state that meets them. -/
def Obligations.StepKeepsTheReachableInvariant : Prop :=
  ∀ s t : State, s.Inv → step s = .next t → t.Inv

/-- R192, R193, R196, R197, R199, R200: the readings stay those of the last completed batch, along every step. -/
def Obligations.StepKeepsTheReadingsTrue : Prop :=
  ∀ s t : State, s.Inv → s.ReadingsFollow → step s = .next t → t.ReadingsFollow

/-- R154, R156, R169: along every step, what a lit position shows and what is still to come are digits of the frame's value,
with its leading zeros, and the decimal point stands where the places put it. -/
def Obligations.StepKeepsTheFrameTrue : Prop :=
  ∀ s t : State, s.Inv → s.FrameShows → step s = .next t → t.FrameShows

/-- R198, R200: `batch_done` is HIGH only in SETUP, with the batch empty; along every step that performs an operation. -/
def Obligations.BatchDoneIsOneTick : Prop :=
  ∀ s t : State, s.inputs.active = true → step s = .next t →
    t.BatchDoneInSetup ∧ (t.bd = true → s.transfers = true ∧ s.cnt.toNat = 31)

/-- R27, decision D32: the voltage fits the `VMV_W` bits of its port. -/
def Obligations.VoltageFitsItsWidth : Prop :=
  ∀ s : State, s.ReadingsFollow → s.vmv < 2 ^ s.block.val.vmvWidth

/-- R302: break before make. Two different digit-select lines are never HIGH in consecutive ticks, every lit sub-frame is
entered from an all-off tick, and it ends in one. -/
def Obligations.BreakBeforeMake : Prop :=
  ∀ s t : State, s.Inv → step s = .next t →
    (s.dig ≠ 0 → t.dig ≠ 0 → t.dig = s.dig ∧ t.seg = s.seg ∧ t.phase = s.phase) ∧
    (t.phase ≠ s.phase → t.dig ≠ 0 → s.outputs.dig = 0b000#3 ∧ s.outputs.segN = 0xFF#8) ∧
    (t.phase ≠ s.phase → s.dig ≠ 0 → t.outputs.dig = 0b000#3 ∧ t.outputs.segN = 0xFF#8)

/- ==== Frames and iterations ==== -/

/-- R163, R164, R308: outside SAMPLE every tick of normal running brings SAMPLE exactly one tick nearer. -/
def Obligations.EveryTickBringsSampleNearer : Prop :=
  ∀ s : State, s.inputs.running = true → s.phase ≠ 0x0#4 →
    ∃ t, step s = .next t ∧ t.ticksToSample + 1 = s.ticksToSample

/-- The frame budget the spec derives in R166: every frame lasts exactly 10000 ticks when and only when
`3 * max DUR + DP_US + 5 <= 10000`, and no frame is shorter. -/
def Obligations.FrameLengthAndBudget : Prop :=
  ∀ b : Block, (∀ v, 10000 ≤ frameLength b v) ∧
    ((∀ v ≤ 9999, frameLength b v = 10000) ↔ 3 * b.val.dur 8 + b.val.dpUs + 5 ≤ 10000)

/-- The timeline the spec derives in R165, with the frame timer of R162: in frame tick `n` of the frame that shows DISP the
phase and the display lines are those of the table, whatever the ADC source does. -/
def Obligations.FrameTimeline : Prop :=
  ∀ (n : Nat) (s : State), s.phase = 0x1#4 → s.seg = 0x00#8 → s.dig = 0b000#3 → s.disp.toNat ≤ 9999 →
    s.RunsFor n → n < frameLength s.block s.disp.toNat →
    ∃ t, Host.Core.run core n s = .next t ∧
      (t.phase, t.outputs.dig, t.outputs.segN) = timeline s.block s.disp.toNat n ∧
      (1 ≤ n → t.ft.toNat = min n 10000)

/-- One iteration (R230, R231, R166, R234): a transferred sample is followed by a frame of exactly `L` ticks, in which
`adc_req` is 0 and the filter does not change; then the block is back in SAMPLE, dark, asking for the next sample. -/
def Obligations.IterationIsOneSampleAndOneFrame : Prop :=
  ∀ s f : State, s.Inv → s.transfers = true → step s = .next f →
    s.RunsFor (1 + frameLength f.block f.disp.toNat) →
    (∀ j, 1 ≤ j → j ≤ frameLength f.block f.disp.toNat →
      ∃ u, Host.Core.run core j s = .next u ∧ u.outputs.adcReq = false) ∧
    ∃ t, Host.Core.run core (1 + frameLength f.block f.disp.toNat) s = .next t ∧
      t.outputs.adcReq = true ∧ t.outputs.segN = 0xFF#8 ∧ t.outputs.dig = 0b000#3 ∧ t.ft.toNat = 10000 ∧
      t.acc = f.acc ∧ t.cnt = f.cnt ∧ t.dec = f.dec ∧ t.vmv = f.vmv ∧ t.disp = f.disp ∧ t.ovf = f.ovf ∧
      t.lastSum = f.lastSum

/- ==== Stimulus ==== -/

/-- R92: the stimulus word of an input word, and back: the data of a word that offers no sample is written as 0. -/
def Obligations.StimulusWordRoundTrip : Prop :=
  ∀ (rst valid : Bool) (data : Sample),
    (stimWord rst valid data).inputs =
      { ce := true, rst := rst, adcValid := valid, adcData := if valid then data else 0 } ∧
    (stimWord rst valid data).toNat =
      2048 * rst.toNat + 1024 * valid.toNat + (if valid then data.toNat else 0)

/-- R93: the words of `sample v` end with the step that transfers `v`, and transfer it once: the batch counts one sample more
and its sum is `v` more, wherever that sum fits 15 bits. The words of `frame` end in SAMPLE and transfer nothing. From every
state. The lengths of both are the closed form of log 21. -/
def Obligations.ScriptDirectivesReachTheirEnd : Prop :=
  ∀ (s : State) (v : Sample),
    ((s.afterWords ((Directive.sample v).words s)).phase = 0x1#4 ∧
      (s.afterWords ((Directive.sample v).words s)).cnt.toNat = (s.cnt.toNat + 1) % 32 ∧
      (s.acc.toNat + v.toNat < 2 ^ 15 →
        (s.cnt.toNat ≠ 31 → (s.afterWords ((Directive.sample v).words s)).acc.toNat = s.acc.toNat + v.toNat) ∧
        (s.cnt.toNat = 31 → (s.afterWords ((Directive.sample v).words s)).acc = 0 ∧
          (s.afterWords ((Directive.sample v).words s)).lastSum.toNat = s.acc.toNat + v.toNat))) ∧
    ((s.afterWords (Directive.frame.words s)).phase = 0x0#4 ∧
      (s.afterWords (Directive.frame.words s)).cnt = s.cnt ∧ (s.afterWords (Directive.frame.words s)).acc = s.acc)
end

