-- ==== Sys2Proof/Laws/Config.lean ====
section
/-! SUPPORT. The fixed constants as numerals, what admissibility gives (spec/00_scope.md R5, R7, R8). -/

namespace Sys2Proof

@[simp] theorem Config.nSamples_eq : Config.nSamples = 32 := rfl
@[simp] theorem Config.decShift_eq : Config.decShift = 3 := rfl
@[simp] theorem Config.roundBit_eq : Config.roundBit = 2 := rfl
@[simp] theorem Config.fullCode_eq : Config.fullCode = 4092 := rfl
@[simp] theorem Config.frameUs_eq : Config.frameUs = 10000 := rfl
@[simp] theorem Config.dispMax_eq : Config.dispMax = 9999 := rfl
@[simp] theorem Config.durMax_eq : Config.durMax = 65536 := rfl

/-- The bounds of R8 on the durations of a block. -/
theorem Block.dur_range (b : Block) (d : Fin 10) : 1 ≤ b.val.dur d ∧ b.val.dur d ≤ 65536 :=
  b.property.2.2.2.2.2.2.2.1 d

/-- The bounds of R8 on the decimal point of a block. -/
theorem Block.dpUs_range (b : Block) : 1 ≤ b.val.dpUs ∧ b.val.dpUs ≤ 65536 :=
  ⟨b.property.2.2.1, b.property.2.2.2.2.2.2.2.2⟩

/-- The full scale of a block is at least one millivolt (R8). -/
theorem Block.fsMv_pos (b : Block) : 1 ≤ b.val.fsMv := b.property.1

end Sys2Proof
end

