-- ==== Sys2Proof/Laws/State.lean ====
section
/-! SUPPORT. One lemma per field for each update of the state: what the update writes, and that it leaves the rest. -/

namespace Sys2Proof.Machine

@[simp] theorem State.clearBd_block (s : State) : (s.clearBd).block = s.block := rfl
@[simp] theorem State.clearBd_acc (s : State) : (s.clearBd).acc = s.acc := rfl
@[simp] theorem State.clearBd_cnt (s : State) : (s.clearBd).cnt = s.cnt := rfl
@[simp] theorem State.clearBd_dec (s : State) : (s.clearBd).dec = s.dec := rfl
@[simp] theorem State.clearBd_vmv (s : State) : (s.clearBd).vmv = s.vmv := rfl
@[simp] theorem State.clearBd_disp (s : State) : (s.clearBd).disp = s.disp := rfl
@[simp] theorem State.clearBd_ovf (s : State) : (s.clearBd).ovf = s.ovf := rfl
@[simp] theorem State.clearBd_lastSum (s : State) : (s.clearBd).lastSum = s.lastSum := rfl
@[simp] theorem State.clearBd_bd (s : State) : (s.clearBd).bd = false := rfl
@[simp] theorem State.clearBd_phase (s : State) : (s.clearBd).phase = s.phase := rfl
@[simp] theorem State.clearBd_hc (s : State) : (s.clearBd).hc = s.hc := rfl
@[simp] theorem State.clearBd_ft (s : State) : (s.clearBd).ft = s.ft := rfl
@[simp] theorem State.clearBd_fv (s : State) : (s.clearBd).fv = s.fv := rfl
@[simp] theorem State.clearBd_dpp (s : State) : (s.clearBd).dpp = s.dpp := rfl
@[simp] theorem State.clearBd_seg (s : State) : (s.clearBd).seg = s.seg := rfl
@[simp] theorem State.clearBd_dig (s : State) : (s.clearBd).dig = s.dig := rfl
@[simp] theorem State.clearBd_stim (s : State) : (s.clearBd).stim = s.stim := rfl
@[simp] theorem State.clearBd_edge (s : State) : (s.clearBd).edge = s.edge := rfl

@[simp] theorem State.dark_block (s : State) : (s.dark).block = s.block := rfl
@[simp] theorem State.dark_acc (s : State) : (s.dark).acc = s.acc := rfl
@[simp] theorem State.dark_cnt (s : State) : (s.dark).cnt = s.cnt := rfl
@[simp] theorem State.dark_dec (s : State) : (s.dark).dec = s.dec := rfl
@[simp] theorem State.dark_vmv (s : State) : (s.dark).vmv = s.vmv := rfl
@[simp] theorem State.dark_disp (s : State) : (s.dark).disp = s.disp := rfl
@[simp] theorem State.dark_ovf (s : State) : (s.dark).ovf = s.ovf := rfl
@[simp] theorem State.dark_lastSum (s : State) : (s.dark).lastSum = s.lastSum := rfl
@[simp] theorem State.dark_bd (s : State) : (s.dark).bd = s.bd := rfl
@[simp] theorem State.dark_phase (s : State) : (s.dark).phase = s.phase := rfl
@[simp] theorem State.dark_hc (s : State) : (s.dark).hc = s.hc := rfl
@[simp] theorem State.dark_ft (s : State) : (s.dark).ft = s.ft := rfl
@[simp] theorem State.dark_fv (s : State) : (s.dark).fv = s.fv := rfl
@[simp] theorem State.dark_dpp (s : State) : (s.dark).dpp = s.dpp := rfl
@[simp] theorem State.dark_seg (s : State) : (s.dark).seg = 0x00#8 := rfl
@[simp] theorem State.dark_dig (s : State) : (s.dark).dig = 0b000#3 := rfl
@[simp] theorem State.dark_stim (s : State) : (s.dark).stim = s.stim := rfl
@[simp] theorem State.dark_edge (s : State) : (s.dark).edge = s.edge := rfl

@[simp] theorem State.goto_block (s : State) (p : PhaseCode) : (s.goto p).block = s.block := rfl
@[simp] theorem State.goto_acc (s : State) (p : PhaseCode) : (s.goto p).acc = s.acc := rfl
@[simp] theorem State.goto_cnt (s : State) (p : PhaseCode) : (s.goto p).cnt = s.cnt := rfl
@[simp] theorem State.goto_dec (s : State) (p : PhaseCode) : (s.goto p).dec = s.dec := rfl
@[simp] theorem State.goto_vmv (s : State) (p : PhaseCode) : (s.goto p).vmv = s.vmv := rfl
@[simp] theorem State.goto_disp (s : State) (p : PhaseCode) : (s.goto p).disp = s.disp := rfl
@[simp] theorem State.goto_ovf (s : State) (p : PhaseCode) : (s.goto p).ovf = s.ovf := rfl
@[simp] theorem State.goto_lastSum (s : State) (p : PhaseCode) : (s.goto p).lastSum = s.lastSum := rfl
@[simp] theorem State.goto_bd (s : State) (p : PhaseCode) : (s.goto p).bd = s.bd := rfl
@[simp] theorem State.goto_phase (s : State) (p : PhaseCode) : (s.goto p).phase = p := rfl
@[simp] theorem State.goto_hc (s : State) (p : PhaseCode) : (s.goto p).hc = s.hc := rfl
@[simp] theorem State.goto_ft (s : State) (p : PhaseCode) : (s.goto p).ft = s.ft := rfl
@[simp] theorem State.goto_fv (s : State) (p : PhaseCode) : (s.goto p).fv = s.fv := rfl
@[simp] theorem State.goto_dpp (s : State) (p : PhaseCode) : (s.goto p).dpp = s.dpp := rfl
@[simp] theorem State.goto_seg (s : State) (p : PhaseCode) : (s.goto p).seg = s.seg := rfl
@[simp] theorem State.goto_dig (s : State) (p : PhaseCode) : (s.goto p).dig = s.dig := rfl
@[simp] theorem State.goto_stim (s : State) (p : PhaseCode) : (s.goto p).stim = s.stim := rfl
@[simp] theorem State.goto_edge (s : State) (p : PhaseCode) : (s.goto p).edge = s.edge := rfl

@[simp] theorem State.tickFrame_block (s : State) : (s.tickFrame).block = s.block := rfl
@[simp] theorem State.tickFrame_acc (s : State) : (s.tickFrame).acc = s.acc := rfl
@[simp] theorem State.tickFrame_cnt (s : State) : (s.tickFrame).cnt = s.cnt := rfl
@[simp] theorem State.tickFrame_dec (s : State) : (s.tickFrame).dec = s.dec := rfl
@[simp] theorem State.tickFrame_vmv (s : State) : (s.tickFrame).vmv = s.vmv := rfl
@[simp] theorem State.tickFrame_disp (s : State) : (s.tickFrame).disp = s.disp := rfl
@[simp] theorem State.tickFrame_ovf (s : State) : (s.tickFrame).ovf = s.ovf := rfl
@[simp] theorem State.tickFrame_lastSum (s : State) : (s.tickFrame).lastSum = s.lastSum := rfl
@[simp] theorem State.tickFrame_bd (s : State) : (s.tickFrame).bd = s.bd := rfl
@[simp] theorem State.tickFrame_phase (s : State) : (s.tickFrame).phase = s.phase := rfl
@[simp] theorem State.tickFrame_hc (s : State) : (s.tickFrame).hc = s.hc := rfl
@[simp] theorem State.tickFrame_ft (s : State) : (s.tickFrame).ft = BitVec.ofNat 14 (min (s.ft.toNat + 1) Config.frameUs) := rfl
@[simp] theorem State.tickFrame_fv (s : State) : (s.tickFrame).fv = s.fv := rfl
@[simp] theorem State.tickFrame_dpp (s : State) : (s.tickFrame).dpp = s.dpp := rfl
@[simp] theorem State.tickFrame_seg (s : State) : (s.tickFrame).seg = s.seg := rfl
@[simp] theorem State.tickFrame_dig (s : State) : (s.tickFrame).dig = s.dig := rfl
@[simp] theorem State.tickFrame_stim (s : State) : (s.tickFrame).stim = s.stim := rfl
@[simp] theorem State.tickFrame_edge (s : State) : (s.tickFrame).edge = s.edge := rfl

@[simp] theorem State.advance_block (s : State) : (s.advance).block = s.block := rfl
@[simp] theorem State.advance_acc (s : State) : (s.advance).acc = s.acc := rfl
@[simp] theorem State.advance_cnt (s : State) : (s.advance).cnt = s.cnt := rfl
@[simp] theorem State.advance_dec (s : State) : (s.advance).dec = s.dec := rfl
@[simp] theorem State.advance_vmv (s : State) : (s.advance).vmv = s.vmv := rfl
@[simp] theorem State.advance_disp (s : State) : (s.advance).disp = s.disp := rfl
@[simp] theorem State.advance_ovf (s : State) : (s.advance).ovf = s.ovf := rfl
@[simp] theorem State.advance_lastSum (s : State) : (s.advance).lastSum = s.lastSum := rfl
@[simp] theorem State.advance_bd (s : State) : (s.advance).bd = s.bd := rfl
@[simp] theorem State.advance_phase (s : State) : (s.advance).phase = s.phase := rfl
@[simp] theorem State.advance_hc (s : State) : (s.advance).hc = s.hc := rfl
@[simp] theorem State.advance_ft (s : State) : (s.advance).ft = s.ft := rfl
@[simp] theorem State.advance_fv (s : State) : (s.advance).fv = s.fv := rfl
@[simp] theorem State.advance_dpp (s : State) : (s.advance).dpp = s.dpp := rfl
@[simp] theorem State.advance_seg (s : State) : (s.advance).seg = s.seg := rfl
@[simp] theorem State.advance_dig (s : State) : (s.advance).dig = s.dig := rfl
@[simp] theorem State.advance_stim (s : State) : (s.advance).stim = s.stim.tail := rfl
@[simp] theorem State.advance_edge (s : State) : (s.advance).edge = s.edge + 1 := rfl

@[simp] theorem State.drive_block (s : State) (c : PatCode) : ((s.drive c).1).block = s.block := rfl
@[simp] theorem State.drive_acc (s : State) (c : PatCode) : ((s.drive c).1).acc = s.acc := rfl
@[simp] theorem State.drive_cnt (s : State) (c : PatCode) : ((s.drive c).1).cnt = s.cnt := rfl
@[simp] theorem State.drive_dec (s : State) (c : PatCode) : ((s.drive c).1).dec = s.dec := rfl
@[simp] theorem State.drive_vmv (s : State) (c : PatCode) : ((s.drive c).1).vmv = s.vmv := rfl
@[simp] theorem State.drive_disp (s : State) (c : PatCode) : ((s.drive c).1).disp = s.disp := rfl
@[simp] theorem State.drive_ovf (s : State) (c : PatCode) : ((s.drive c).1).ovf = s.ovf := rfl
@[simp] theorem State.drive_lastSum (s : State) (c : PatCode) : ((s.drive c).1).lastSum = s.lastSum := rfl
@[simp] theorem State.drive_bd (s : State) (c : PatCode) : ((s.drive c).1).bd = s.bd := rfl
@[simp] theorem State.drive_phase (s : State) (c : PatCode) : ((s.drive c).1).phase = s.phase := rfl
@[simp] theorem State.drive_hc (s : State) (c : PatCode) : ((s.drive c).1).hc = s.hc := rfl
@[simp] theorem State.drive_ft (s : State) (c : PatCode) : ((s.drive c).1).ft = s.ft := rfl
@[simp] theorem State.drive_fv (s : State) (c : PatCode) : ((s.drive c).1).fv = s.fv := rfl
@[simp] theorem State.drive_dpp (s : State) (c : PatCode) : ((s.drive c).1).dpp = s.dpp := rfl
@[simp] theorem State.drive_seg (s : State) (c : PatCode) : ((s.drive c).1).seg = (patRom s.block c).seg := rfl
@[simp] theorem State.drive_dig (s : State) (c : PatCode) : ((s.drive c).1).dig = s.dig := rfl
@[simp] theorem State.drive_stim (s : State) (c : PatCode) : ((s.drive c).1).stim = s.stim := rfl
@[simp] theorem State.drive_edge (s : State) (c : PatCode) : ((s.drive c).1).edge = s.edge := rfl

@[simp] theorem State.load_block (s : State) (p : Position) (x : Nat) : (s.load p x).block = s.block := rfl
@[simp] theorem State.load_acc (s : State) (p : Position) (x : Nat) : (s.load p x).acc = s.acc := rfl
@[simp] theorem State.load_cnt (s : State) (p : Position) (x : Nat) : (s.load p x).cnt = s.cnt := rfl
@[simp] theorem State.load_dec (s : State) (p : Position) (x : Nat) : (s.load p x).dec = s.dec := rfl
@[simp] theorem State.load_vmv (s : State) (p : Position) (x : Nat) : (s.load p x).vmv = s.vmv := rfl
@[simp] theorem State.load_disp (s : State) (p : Position) (x : Nat) : (s.load p x).disp = s.disp := rfl
@[simp] theorem State.load_ovf (s : State) (p : Position) (x : Nat) : (s.load p x).ovf = s.ovf := rfl
@[simp] theorem State.load_lastSum (s : State) (p : Position) (x : Nat) : (s.load p x).lastSum = s.lastSum := rfl
@[simp] theorem State.load_bd (s : State) (p : Position) (x : Nat) : (s.load p x).bd = s.bd := rfl
@[simp] theorem State.load_phase (s : State) (p : Position) (x : Nat) : (s.load p x).phase = s.phase := rfl
@[simp] theorem State.load_hc (s : State) (p : Position) (x : Nat) : (s.load p x).hc = BitVec.ofNat 16 ((patRom s.block (digitCode x)).dur.toNat - 1) := rfl
@[simp] theorem State.load_ft (s : State) (p : Position) (x : Nat) : (s.load p x).ft = s.ft := rfl
@[simp] theorem State.load_fv (s : State) (p : Position) (x : Nat) : (s.load p x).fv = BitVec.ofNat 10 (x / 10) := rfl
@[simp] theorem State.load_dpp (s : State) (p : Position) (x : Nat) : (s.load p x).dpp = s.dpp := rfl
@[simp] theorem State.load_seg (s : State) (p : Position) (x : Nat) : (s.load p x).seg = (patRom s.block (digitCode x)).seg := rfl
@[simp] theorem State.load_dig (s : State) (p : Position) (x : Nat) : (s.load p x).dig = onehot p := rfl
@[simp] theorem State.load_stim (s : State) (p : Position) (x : Nat) : (s.load p x).stim = s.stim := rfl
@[simp] theorem State.load_edge (s : State) (p : Position) (x : Nat) : (s.load p x).edge = s.edge := rfl

@[simp] theorem State.scale_block (s : State) (q : Nat) : (s.scale q).block = s.block := rfl
@[simp] theorem State.scale_acc (s : State) (q : Nat) : (s.scale q).acc = s.acc := rfl
@[simp] theorem State.scale_cnt (s : State) (q : Nat) : (s.scale q).cnt = s.cnt := rfl
@[simp] theorem State.scale_dec (s : State) (q : Nat) : (s.scale q).dec = s.dec := rfl
@[simp] theorem State.scale_vmv (s : State) (q : Nat) : (s.scale q).vmv = q * s.block.val.fsMv / Config.fullCode := rfl
@[simp] theorem State.scale_disp (s : State) (q : Nat) : (s.scale q).disp = BitVec.ofNat 14 (if overflows (q * s.block.val.fsMv / Config.fullCode / 10) then Config.dispMax else q * s.block.val.fsMv / Config.fullCode / 10) := rfl
@[simp] theorem State.scale_ovf (s : State) (q : Nat) : (s.scale q).ovf = overflows (q * s.block.val.fsMv / Config.fullCode / 10) := rfl
@[simp] theorem State.scale_lastSum (s : State) (q : Nat) : (s.scale q).lastSum = s.lastSum := rfl
@[simp] theorem State.scale_bd (s : State) (q : Nat) : (s.scale q).bd = s.bd := rfl
@[simp] theorem State.scale_phase (s : State) (q : Nat) : (s.scale q).phase = s.phase := rfl
@[simp] theorem State.scale_hc (s : State) (q : Nat) : (s.scale q).hc = s.hc := rfl
@[simp] theorem State.scale_ft (s : State) (q : Nat) : (s.scale q).ft = s.ft := rfl
@[simp] theorem State.scale_fv (s : State) (q : Nat) : (s.scale q).fv = s.fv := rfl
@[simp] theorem State.scale_dpp (s : State) (q : Nat) : (s.scale q).dpp = s.dpp := rfl
@[simp] theorem State.scale_seg (s : State) (q : Nat) : (s.scale q).seg = s.seg := rfl
@[simp] theorem State.scale_dig (s : State) (q : Nat) : (s.scale q).dig = s.dig := rfl
@[simp] theorem State.scale_stim (s : State) (q : Nat) : (s.scale q).stim = s.stim := rfl
@[simp] theorem State.scale_edge (s : State) (q : Nat) : (s.scale q).edge = s.edge := rfl

@[simp] theorem State.decimate_block (s : State) (a : BitVec 15) : (s.decimate a).block = s.block := rfl
@[simp] theorem State.decimate_acc (s : State) (a : BitVec 15) : (s.decimate a).acc = s.acc := rfl
@[simp] theorem State.decimate_cnt (s : State) (a : BitVec 15) : (s.decimate a).cnt = s.cnt := rfl
@[simp] theorem State.decimate_dec (s : State) (a : BitVec 15) : (s.decimate a).dec = if decimated s.block.val.roundMode a < 2 ^ 12 then BitVec.ofNat 12 (decimated s.block.val.roundMode a) else Config.freeReading s.edge := rfl
@[simp] theorem State.decimate_vmv (s : State) (a : BitVec 15) : (s.decimate a).vmv = decimated s.block.val.roundMode a * s.block.val.fsMv / Config.fullCode := rfl
@[simp] theorem State.decimate_disp (s : State) (a : BitVec 15) : (s.decimate a).disp = BitVec.ofNat 14 (if overflows (decimated s.block.val.roundMode a * s.block.val.fsMv / Config.fullCode / 10) then Config.dispMax else decimated s.block.val.roundMode a * s.block.val.fsMv / Config.fullCode / 10) := rfl
@[simp] theorem State.decimate_ovf (s : State) (a : BitVec 15) : (s.decimate a).ovf = overflows (decimated s.block.val.roundMode a * s.block.val.fsMv / Config.fullCode / 10) := rfl
@[simp] theorem State.decimate_lastSum (s : State) (a : BitVec 15) : (s.decimate a).lastSum = a := rfl
@[simp] theorem State.decimate_bd (s : State) (a : BitVec 15) : (s.decimate a).bd = true := rfl
@[simp] theorem State.decimate_phase (s : State) (a : BitVec 15) : (s.decimate a).phase = s.phase := rfl
@[simp] theorem State.decimate_hc (s : State) (a : BitVec 15) : (s.decimate a).hc = s.hc := rfl
@[simp] theorem State.decimate_ft (s : State) (a : BitVec 15) : (s.decimate a).ft = s.ft := rfl
@[simp] theorem State.decimate_fv (s : State) (a : BitVec 15) : (s.decimate a).fv = s.fv := rfl
@[simp] theorem State.decimate_dpp (s : State) (a : BitVec 15) : (s.decimate a).dpp = s.dpp := rfl
@[simp] theorem State.decimate_seg (s : State) (a : BitVec 15) : (s.decimate a).seg = s.seg := rfl
@[simp] theorem State.decimate_dig (s : State) (a : BitVec 15) : (s.decimate a).dig = s.dig := rfl
@[simp] theorem State.decimate_stim (s : State) (a : BitVec 15) : (s.decimate a).stim = s.stim := rfl
@[simp] theorem State.decimate_edge (s : State) (a : BitVec 15) : (s.decimate a).edge = s.edge := rfl

@[simp] theorem State.resetRegisters_block (s : State) : (s.resetRegisters).block = s.block := rfl
@[simp] theorem State.resetRegisters_acc (s : State) : (s.resetRegisters).acc = 0 := rfl
@[simp] theorem State.resetRegisters_cnt (s : State) : (s.resetRegisters).cnt = 0 := rfl
@[simp] theorem State.resetRegisters_dec (s : State) : (s.resetRegisters).dec = 0 := rfl
@[simp] theorem State.resetRegisters_vmv (s : State) : (s.resetRegisters).vmv = 0 := rfl
@[simp] theorem State.resetRegisters_disp (s : State) : (s.resetRegisters).disp = 0 := rfl
@[simp] theorem State.resetRegisters_ovf (s : State) : (s.resetRegisters).ovf = false := rfl
@[simp] theorem State.resetRegisters_lastSum (s : State) : (s.resetRegisters).lastSum = 0 := rfl
@[simp] theorem State.resetRegisters_bd (s : State) : (s.resetRegisters).bd = false := rfl
@[simp] theorem State.resetRegisters_phase (s : State) : (s.resetRegisters).phase = 0x0#4 := rfl
@[simp] theorem State.resetRegisters_hc (s : State) : (s.resetRegisters).hc = 0 := rfl
@[simp] theorem State.resetRegisters_ft (s : State) : (s.resetRegisters).ft = 0 := rfl
@[simp] theorem State.resetRegisters_fv (s : State) : (s.resetRegisters).fv = 0 := rfl
@[simp] theorem State.resetRegisters_dpp (s : State) : (s.resetRegisters).dpp = 0 := rfl
@[simp] theorem State.resetRegisters_seg (s : State) : (s.resetRegisters).seg = 0x00#8 := rfl
@[simp] theorem State.resetRegisters_dig (s : State) : (s.resetRegisters).dig = 0b000#3 := rfl
@[simp] theorem State.resetRegisters_stim (s : State) : (s.resetRegisters).stim = s.stim := rfl
@[simp] theorem State.resetRegisters_edge (s : State) : (s.resetRegisters).edge = s.edge := rfl

@[simp] theorem State.ofBlock_block (b : Block) : (State.ofBlock b).block = b := rfl
@[simp] theorem State.ofBlock_acc (b : Block) : (State.ofBlock b).acc = 0 := rfl
@[simp] theorem State.ofBlock_cnt (b : Block) : (State.ofBlock b).cnt = 0 := rfl
@[simp] theorem State.ofBlock_dec (b : Block) : (State.ofBlock b).dec = 0 := rfl
@[simp] theorem State.ofBlock_vmv (b : Block) : (State.ofBlock b).vmv = 0 := rfl
@[simp] theorem State.ofBlock_disp (b : Block) : (State.ofBlock b).disp = 0 := rfl
@[simp] theorem State.ofBlock_ovf (b : Block) : (State.ofBlock b).ovf = false := rfl
@[simp] theorem State.ofBlock_lastSum (b : Block) : (State.ofBlock b).lastSum = 0 := rfl
@[simp] theorem State.ofBlock_bd (b : Block) : (State.ofBlock b).bd = false := rfl
@[simp] theorem State.ofBlock_phase (b : Block) : (State.ofBlock b).phase = 0x0#4 := rfl
@[simp] theorem State.ofBlock_hc (b : Block) : (State.ofBlock b).hc = 0 := rfl
@[simp] theorem State.ofBlock_ft (b : Block) : (State.ofBlock b).ft = 0 := rfl
@[simp] theorem State.ofBlock_fv (b : Block) : (State.ofBlock b).fv = 0 := rfl
@[simp] theorem State.ofBlock_dpp (b : Block) : (State.ofBlock b).dpp = 0 := rfl
@[simp] theorem State.ofBlock_seg (b : Block) : (State.ofBlock b).seg = 0x00#8 := rfl
@[simp] theorem State.ofBlock_dig (b : Block) : (State.ofBlock b).dig = 0b000#3 := rfl
@[simp] theorem State.ofBlock_stim (b : Block) : (State.ofBlock b).stim = [] := rfl
@[simp] theorem State.ofBlock_edge (b : Block) : (State.ofBlock b).edge = 0 := rfl

end Sys2Proof.Machine
end

