-- ==== Sys2Proof/Laws/Operands.lean ====
section
/-! SUPPORT. What the operand forms give: the input ports, the digit codes, the pattern ROM, RangeSelect and dpOnehot. -/

namespace Sys2Proof.Machine

/-- After an edge, what was j + 1 edges away is j edges away. -/
@[simp] theorem State.advance_inputsAt (s : State) (j : Nat) : s.advance.inputsAt j = s.inputsAt (j + 1) := by
  simp [State.inputsAt, State.advance, Nat.add_assoc, Nat.add_comm 1 j]

/-- The operations change no pending word, so two states with the same pending words see the same inputs. -/
theorem State.inputsAt_congr {s t : State} (hs : t.stim = s.stim) (he : t.edge = s.edge) (j : Nat) :
    t.inputsAt j = s.inputsAt j := by
  simp [State.inputsAt, hs, he]

/-- The pattern code of a digit is the digit (R90). -/
@[simp] theorem digitCode_toNat (x : Nat) : (digitCode x).toNat = x % 10 := by
  simp only [digitCode, BitVec.toNat_ofNat]
  omega

/-- A digit code reads its glyph and its duration, a number of ticks from 1 to 65536 (R112, R136). -/
theorem patRom_digit (b : Block) (x : Nat) :
    (patRom b (digitCode x)).seg = glyph ⟨x % 10, by omega⟩ ∧
    (patRom b (digitCode x)).dur.toNat = b.val.dur ⟨x % 10, by omega⟩ := by
  have h : (digitCode x).toNat < 10 := by rw [digitCode_toNat]; omega
  have hr := b.dur_range ⟨x % 10, by omega⟩
  have hp : patRom b (digitCode x) =
      ⟨glyph ⟨x % 10, by omega⟩, BitVec.ofNat 17 (b.val.dur ⟨x % 10, by omega⟩)⟩ := by
    unfold patRom
    rw [dif_pos h]
    simp only [digitCode_toNat]
  rw [hp]
  refine ⟨rfl, ?_⟩
  rw [BitVec.toNat_ofNat]
  omega

/-- The duration of a digit sub-frame fits the hold counter and is not empty (R136). -/
theorem patRom_digit_dur_range (b : Block) (x : Nat) :
    1 ≤ (patRom b (digitCode x)).dur.toNat ∧ (patRom b (digitCode x)).dur.toNat ≤ 65536 := by
  rw [(patRom_digit b x).2]
  exact b.dur_range _

/-- A code that is no digit reads as Blank (R114, R115). -/
theorem patRom_not_digit (b : Block) (c : PatCode) (h : 10 ≤ c.toNat) : patRom b c = RomEntry.blank := by
  simp [patRom, Nat.not_lt.mpr h]

/-- The two ranges of RangeSelect (R153). -/
theorem rangeSelect_cases (v : Nat) :
    (v < 1000 ∧ rangeSelect v = (v, 2)) ∨ (1000 ≤ v ∧ rangeSelect v = (v / 10, 1)) := by
  unfold rangeSelect
  split
  · exact .inl ⟨‹_›, rfl⟩
  · exact .inr ⟨by omega, rfl⟩

/-- The sum of a FEED, where it fits 15 bits (R190, R201). -/
theorem State.feedSum_toNat (s : State) (h : s.acc.toNat + s.inputs.adcData.toNat < 2 ^ 15) :
    s.feedSum.toNat = s.acc.toNat + s.inputs.adcData.toNat := by
  simp only [State.feedSum, h, if_true, BitVec.toNat_ofNat]
  omega

end Sys2Proof.Machine
end

