-- ==== Sys2Proof/Laws/Ops.lean ====
section
/-! SUPPORT. Each shared operation's lemma: everything it can do, stated once. -/

namespace Sys2Proof.Machine

/-- The frame timer counts and saturates at 10000 (R162). -/
theorem State.tickFrame_ft_toNat (s : State) : s.tickFrame.ft.toNat = min (s.ft.toNat + 1) 10000 := by
  simp only [State.tickFrame_ft, Config.frameUs_eq, BitVec.toNat_ofNat]
  omega

/-- HOLD (R158): the last tick turns everything off and goes on, any other counts down. -/
theorem State.hold_cases (s : State) (next : PhaseCode) :
    (s.hc = 0 ∧ s.hold next = s.tickFrame.dark.goto next) ∨
    (s.hc ≠ 0 ∧ (s.hc - 1).toNat = s.hc.toNat - 1 ∧ s.hold next = { s.tickFrame with hc := s.hc - 1 }) := by
  unfold State.hold
  by_cases h : s.hc = 0
  · exact .inl ⟨h, if_pos h⟩
  · exact .inr ⟨h, by bv_omega, if_neg h⟩

/-- GAP_END's tick (R163): SAMPLE at the deadline, PAD before it. -/
theorem State.endOrPad_cases (s : State) :
    (9999 ≤ s.ft.toNat ∧ s.endOrPad = s.tickFrame.goto Phase.sample) ∨
    (s.ft.toNat < 9999 ∧ s.endOrPad = s.tickFrame.goto Phase.pad) := by
  have hft := s.tickFrame_ft_toNat
  unfold State.endOrPad
  by_cases h : 9999 ≤ s.ft.toNat
  · refine .inl ⟨h, ?_⟩
    rw [if_pos (by rw [hft]; simp; omega)]
  · refine .inr ⟨by omega, ?_⟩
    rw [if_neg (by rw [hft]; simp; omega)]

/-- LOAD (R157) lights the position for exactly the duration of the digit. -/
theorem State.load_hc_toNat (s : State) (p : Position) (x : Nat) :
    (s.load p x).hc.toNat + 1 = (patRom s.block (digitCode x)).dur.toNat := by
  have := patRom_digit_dur_range s.block x
  simp only [State.load_hc, BitVec.toNat_ofNat]
  omega

/-- LOAD (R157) keeps the other digits, for a value that a frame can hold. -/
theorem State.load_fv_toNat (s : State) (p : Position) (x : Nat) (h : x < 10240) :
    (s.load p x).fv.toNat = x / 10 := by
  simp only [State.load_fv, BitVec.toNat_ofNat]
  omega

/-- OVF's test (R197). -/
@[simp] theorem overflows_iff (t : Nat) : overflows t = true ↔ 9999 < t :=
  decide_eq_true_iff (p := Config.dispMax < t)

/-- The display value of SCALE (R197) is the voltage over 10, clamped to 9999. -/
theorem State.scale_disp_toNat (s : State) (q : Nat) :
    (s.scale q).disp.toNat = min 9999 (q * s.block.val.fsMv / 4092 / 10) := by
  rw [State.scale_disp, Config.fullCode_eq, Config.dispMax_eq, BitVec.toNat_ofNat]
  by_cases h : overflows (q * s.block.val.fsMv / 4092 / 10) = true
  · rw [if_pos h]
    rw [overflows_iff] at h
    omega
  · rw [if_neg h]
    rw [overflows_iff] at h
    omega

/-- The round-up flag is 0 or 1 (R193). -/
theorem roundFlag_le_one (m : RoundMode) (a : BitVec 15) : roundFlag m a ≤ 1 := by
  unfold roundFlag
  cases m <;> dsimp only <;> split <;> omega

/-- The decimated reading is the sum over 8, plus at most 1 (R192). -/
theorem decimated_bounds (m : RoundMode) (a : BitVec 15) :
    a.toNat / 8 ≤ decimated m a ∧ decimated m a ≤ a.toNat / 8 + 1 := by
  have := roundFlag_le_one m a
  simp only [decimated, Config.decShift_eq, Nat.shiftRight_eq_div_pow]
  omega

/-- FEED (R190): what it leaves, before and at the end of a batch. -/
theorem execFeed_cases (s : State) :
    (s.cnt.toNat ≠ 31 ∧ execFeed s = .next { s.clearBd with
      acc := s.feedSum, cnt := BitVec.ofNat 5 (s.cnt.toNat + 1), phase := Phase.setup }) ∨
    (s.cnt.toNat = 31 ∧ execFeed s = .next { s.decimate s.feedSum with acc := 0, cnt := 0, phase := Phase.setup }) := by
  unfold execFeed
  by_cases h : s.cnt.toNat = 31
  · exact .inr ⟨h, by simp [h]⟩
  · exact .inl ⟨h, by simp [h]⟩

/-- What a step does around the operation it selects (R80). -/
theorem step_cases {s t : State} (h : step s = .next t) :
    (s.inputs.active = true ∧ ∃ u, exec s.operation s = .next u ∧ t = u.advance) ∨
    (s.inputs.active = false ∧ t = s.advance) := by
  unfold step at h
  split at h
  · refine .inl ⟨‹_›, ?_⟩
    split at h
    · exact ⟨_, ‹_›, by simpa using h.symm⟩
    · cases h
    · cases h
  · rename_i hi
    exact .inr ⟨by simpa using hi, by simpa using h.symm⟩

end Sys2Proof.Machine
end

