-- ==== Sys2Proof/Laws/PerInstr.lean ====
section
/-! SUPPORT. Statements for all operations, one lemma per constructor (LAWS.json). RowFixedBits: an operation's selector has
the fixed bits of its row of spec/opcode_table.json, whatever its operands. -/

namespace Sys2Proof.Laws.RowFixedBits

/-- The selector of `i` belongs to the row that `i` stands for. -/
def Statement (i : Instr) : Prop := i.row.matches (encode i) = true

theorem reset (v : Bool) (p : PhaseCode) : Statement (.reset v p) := by
  revert v p; unfold Statement; decide
theorem sampleWait : Statement .sampleWait := by unfold Statement; decide
theorem feed : Statement .feed := by unfold Statement; decide
theorem setup (v : Bool) : Statement (.setup v) := by revert v; unfold Statement; decide
theorem holdLit3 (v : Bool) : Statement (.holdLit3 v) := by revert v; unfold Statement; decide
theorem gapLoadGap3 (v : Bool) : Statement (.gapLoadGap3 v) := by revert v; unfold Statement; decide
theorem holdLit2 (v : Bool) : Statement (.holdLit2 v) := by revert v; unfold Statement; decide
theorem gapLoadGap2 (v : Bool) : Statement (.gapLoadGap2 v) := by revert v; unfold Statement; decide
theorem holdLit1 (v : Bool) : Statement (.holdLit1 v) := by revert v; unfold Statement; decide
theorem gapDp (v : Bool) : Statement (.gapDp v) := by revert v; unfold Statement; decide
theorem holdDp (v : Bool) : Statement (.holdDp v) := by revert v; unfold Statement; decide
theorem gapEnd (v : Bool) : Statement (.gapEnd v) := by revert v; unfold Statement; decide
theorem pad (v : Bool) : Statement (.pad v) := by revert v; unfold Statement; decide
theorem recoverB (v : Bool) : Statement (.recoverB v) := by revert v; unfold Statement; decide
theorem recoverCF (v : Bool) (low : BitVec 2) : Statement (.recoverCF v low) := by
  revert v low; unfold Statement; decide

end Sys2Proof.Laws.RowFixedBits
end

