-- ==== Sys2Proof/Laws/Step.lean ====
section
/-! SUPPORT. How a step reaches its operation, what the operations leave of the environment, and runs of several steps. -/

namespace Sys2Proof.Machine

/-- With `rst = 1` the operation is RESET, whatever the other bits (R81). -/
theorem State.operation_reset (s : State) (h : s.inputs.rst = true) :
    s.operation = .reset s.inputs.adcValid s.phase := by
  unfold State.operation State.selector
  rw [h]
  generalize s.inputs.adcValid = v
  generalize s.phase = p
  revert v p
  decide

/-- With `rst = 0` PHASE selects the operation, and V decides only in SAMPLE (R81, R83). -/
theorem State.operation_running (s : State) (h : s.inputs.rst = false) :
    s.operation = match s.phase.toNat with
      | 0x0 => if s.inputs.adcValid then .feed else .sampleWait
      | 0x1 => .setup s.inputs.adcValid
      | 0x2 => .holdLit3 s.inputs.adcValid
      | 0x3 => .gapLoadGap3 s.inputs.adcValid
      | 0x4 => .holdLit2 s.inputs.adcValid
      | 0x5 => .gapLoadGap2 s.inputs.adcValid
      | 0x6 => .holdLit1 s.inputs.adcValid
      | 0x7 => .gapDp s.inputs.adcValid
      | 0x8 => .holdDp s.inputs.adcValid
      | 0x9 => .gapEnd s.inputs.adcValid
      | 0xA => .pad s.inputs.adcValid
      | 0xB => .recoverB s.inputs.adcValid
      | _ => .recoverCF s.inputs.adcValid (s.phase.extractLsb' 0 2) := by
  unfold State.operation State.selector
  rw [h]
  generalize s.inputs.adcValid = v
  generalize s.phase = p
  revert v p
  decide

/-- HOLD leaves the environment alone. -/
theorem State.hold_environment (s : State) (p : PhaseCode) :
    (s.hold p).stim = s.stim ∧ (s.hold p).edge = s.edge := by
  rcases s.hold_cases p with ⟨_, h⟩ | ⟨_, _, h⟩ <;> rw [h] <;> exact ⟨rfl, rfl⟩

/-- No operation touches the pending input words or the edge count: the step alone does. -/
theorem exec_environment {i : Instr} {s t : State} (h : exec i s = .next t) :
    t.stim = s.stim ∧ t.edge = s.edge := by
  cases i with
  | feed =>
    rcases execFeed_cases s with ⟨_, hf⟩ | ⟨_, hf⟩ <;> rw [exec, hf] at h <;> cases h <;> exact ⟨rfl, rfl⟩
  | holdLit3 v => cases h; exact s.clearBd.hold_environment _
  | holdLit2 v => cases h; exact s.clearBd.hold_environment _
  | holdLit1 v => cases h; exact s.clearBd.hold_environment _
  | holdDp v => cases h; exact s.clearBd.hold_environment _
  | gapEnd v =>
    cases h
    rcases s.clearBd.endOrPad_cases with ⟨_, he⟩ | ⟨_, he⟩ <;> rw [he] <;> exact ⟨rfl, rfl⟩
  | pad v => cases h; split <;> exact ⟨rfl, rfl⟩
  | _ => cases h; exact ⟨rfl, rfl⟩

/-- A run of n + 1 steps takes one step and then runs n. -/
theorem run_succ {s t : State} (n : Nat) (h : step s = .next t) :
    Host.Core.run Sys2Proof.core (n + 1) s = Host.Core.run Sys2Proof.core n t := by
  have hs : Sys2Proof.core.step s = .next t := h
  simp only [Host.Core.run, hs]

/-- On an edge with `rst = 1` the step is RESET (R81, R290). -/
theorem step_reset (s : State) (h : s.inputs.rst = true) : step s = .next s.resetRegisters.advance := by
  simp [step, Inputs.active, h, s.operation_reset h, exec, execReset]

/-- On a tick of normal running the step is the selected operation (R80). -/
theorem step_operation {s t : State} (h : s.inputs.running = true) (he : exec s.operation s = .next t) :
    step s = .next t.advance := by
  have ha : s.inputs.active = true := by
    simp only [Inputs.running, Bool.and_eq_true] at h
    simp [Inputs.active, h.1]
  simp [step, ha, he]

/-- Everything a step can do: nothing, RESET, or the operation of the phase. -/
theorem step_all {s t : State} (h : step s = .next t) :
    (s.inputs.active = false ∧ t = s.advance) ∨
    (s.inputs.rst = true ∧ t = s.resetRegisters.advance) ∨
    (s.inputs.running = true ∧ ∃ u, t = u.advance ∧ (
      (s.phase = 0x0#4 ∧ s.inputs.adcValid = false ∧ u = s.clearBd) ∨
      (s.phase = 0x0#4 ∧ s.inputs.adcValid = true ∧ execFeed s = .next u) ∨
      (s.phase = 0x1#4 ∧ execSetup s = .next u) ∨
      (s.phase = 0x2#4 ∧ u = s.clearBd.hold 0x3#4) ∨
      (s.phase = 0x3#4 ∧ execGapLoadGap3 s = .next u) ∨
      (s.phase = 0x4#4 ∧ u = s.clearBd.hold 0x5#4) ∨
      (s.phase = 0x5#4 ∧ execGapLoadGap2 s = .next u) ∨
      (s.phase = 0x6#4 ∧ u = s.clearBd.hold 0x7#4) ∨
      (s.phase = 0x7#4 ∧ execGapDp s = .next u) ∨
      (s.phase = 0x8#4 ∧ u = s.clearBd.hold 0x9#4) ∨
      (s.phase = 0x9#4 ∧ u = s.clearBd.endOrPad) ∨
      (s.phase = 0xA#4 ∧ execPad s = .next u) ∨
      (0xB ≤ s.phase.toNat ∧ u = s.clearBd.dark.goto 0x0#4))) := by
  rcases step_cases h with ⟨ha, u, hu, ht⟩ | ⟨ha, ht⟩
  · by_cases hr : s.inputs.rst = true
    · right; left
      rw [step_reset s hr] at h; exact ⟨hr, by simpa using h.symm⟩
    · right; right
      have hr' : s.inputs.rst = false := by simpa using hr
      refine ⟨by simp [Inputs.running, Inputs.active, hr'] at *; exact ha, u, ht, ?_⟩
      rw [State.operation_running s hr'] at hu
      have hp : ∀ n : Nat, s.phase.toNat = n → n < 16 → s.phase = BitVec.ofNat 4 n := by
        intro n h1 h2; apply BitVec.eq_of_toNat_eq; rw [BitVec.toNat_ofNat]; omega
      have hlt := s.phase.isLt
      rcases hn : s.phase.toNat with _|_|_|_|_|_|_|_|_|_|_|_|n <;> rw [hn] at hu <;> try rw [hp _ hn (by omega)]
      · by_cases hv : s.inputs.adcValid = true
        · rw [if_pos hv] at hu
          exact .inr (.inl ⟨rfl, hv, hu⟩)
        · rw [if_neg hv] at hu
          exact .inl ⟨rfl, by simpa using hv, by simpa [exec, execSampleWait] using hu.symm⟩
      · exact .inr (.inr (.inl ⟨rfl, hu⟩))
      · exact .inr (.inr (.inr (.inl ⟨rfl, by simpa [exec, execHoldLit3] using hu.symm⟩)))
      · exact .inr (.inr (.inr (.inr (.inl ⟨rfl, hu⟩))))
      · exact .inr (.inr (.inr (.inr (.inr (.inl ⟨rfl, by simpa [exec, execHoldLit2] using hu.symm⟩)))))
      · exact .inr (.inr (.inr (.inr (.inr (.inr (.inl ⟨rfl, hu⟩))))))
      · exact .inr (.inr (.inr (.inr (.inr (.inr (.inr (.inl ⟨rfl, by simpa [exec, execHoldLit1] using hu.symm⟩)))))))
      · exact .inr (.inr (.inr (.inr (.inr (.inr (.inr (.inr (.inl ⟨rfl, hu⟩))))))))
      · exact .inr (.inr (.inr (.inr (.inr (.inr (.inr (.inr (.inr (.inl ⟨rfl, by simpa [exec, execHoldDp] using hu.symm⟩)))))))))
      · exact .inr (.inr (.inr (.inr (.inr (.inr (.inr (.inr (.inr (.inr (.inl ⟨rfl, by simpa [exec, execGapEnd] using hu.symm⟩))))))))))
      · exact .inr (.inr (.inr (.inr (.inr (.inr (.inr (.inr (.inr (.inr (.inr (.inl ⟨rfl, hu⟩)))))))))))
      · exact .inr (.inr (.inr (.inr (.inr (.inr (.inr (.inr (.inr (.inr (.inr (.inr ⟨by simp, by simpa [exec, execRecoverB] using hu.symm⟩)))))))))))
      · exact .inr (.inr (.inr (.inr (.inr (.inr (.inr (.inr (.inr (.inr (.inr (.inr ⟨by omega, by simpa [exec, execRecoverCF] using hu.symm⟩)))))))))))
  · exact .inl ⟨ha, ht⟩

end Sys2Proof.Machine
end

