-- ==== Sys2Proof/Tests/Slice0.lean ====
section
/-! SUPPORT. Tests: the checks of a configuration, decoding, one or two steps per operation, and for every statement with
hypotheses a witness that meets them. Expected values are those of spec/95_test_vectors.md (the vector's id is cited) or of
the rule cited, never the model's own answer. -/

namespace Sys2Proof.Tests

open Sys2Proof.Machine

/- ==== Configurations (R8) ==== -/

/-- EX1 with another base duration and another scale factor for digit `d`. -/
def scaled (base : Nat) (d : Fin 10) (r : Ratio) : Params :=
  { Params.ex1 with baseUs := base, scale := Params.ex1.scale.set d r }

theorem test_config_ex1 : Params.ex1.firstError = none := by decide
theorem test_config_no_full_scale : { Params.ex1 with fsMv := 0 }.firstError = some .fullScaleZero := by decide
theorem test_config_no_base : { Params.ex1 with baseUs := 0 }.firstError = some .baseZero := by decide
theorem test_config_no_point : { Params.ex1 with dpUs := 0 }.firstError = some .pointZero := by decide
theorem test_config_zero_scale : (scaled 1400 3 ⟨0, 1⟩).firstError = some .scaleNotPositive := by decide
theorem test_config_scale_of_eight : (scaled 1400 8 ⟨8, 7⟩).firstError = some .scaleOfEight := by decide
/-- Section 3.2: `BASE_US = 1000` with a scale of 999/1000 is refused. -/
theorem test_config_eight_longest : (scaled 1000 0 ⟨999, 1000⟩).firstError = some .eightNotLongest := by decide
theorem test_config_one_shorter : (scaled 1400 1 ⟨7, 7⟩).firstError = some .oneNotShorter := by decide
/-- Section 3.2: `BASE_US = 1000` with a scale of 2000 gives a duration of 0 and is refused. -/
theorem test_config_zero_duration : (scaled 1000 2 ⟨2000, 1⟩).firstError = some .durationRange := by decide
theorem test_config_long_duration : (scaled 65537 2 ⟨7, 5⟩).firstError = some .durationRange := by decide
theorem test_config_long_point : { Params.ex1 with dpUs := 65537 }.firstError = some .pointTooLong := by decide
/-- The duration arithmetic of section 3.2. -/
theorem test_durations :
    (scaled 1000 0 ⟨3, 1⟩).dur 0 = 333 ∧ (scaled 1000 0 ⟨3, 2⟩).dur 0 = 666 ∧ (scaled 1000 0 ⟨1001, 1000⟩).dur 0 = 999 := by
  decide

/- ==== Decoding: one written-out selector per constructor (R80, R83, R84) ==== -/

theorem test_decode_reset : decode 0b110110#6 = .reset true 0x6#4 := by decide
theorem test_decode_sampleWait : decode 0b000000#6 = .sampleWait := by decide
theorem test_decode_feed : decode 0b010000#6 = .feed := by decide
theorem test_decode_setup : decode 0b010001#6 = .setup true := by decide
theorem test_decode_holdLit3 : decode 0b000010#6 = .holdLit3 false := by decide
theorem test_decode_gapLoadGap3 : decode 0b010011#6 = .gapLoadGap3 true := by decide
theorem test_decode_holdLit2 : decode 0b000100#6 = .holdLit2 false := by decide
theorem test_decode_gapLoadGap2 : decode 0b010101#6 = .gapLoadGap2 true := by decide
theorem test_decode_holdLit1 : decode 0b000110#6 = .holdLit1 false := by decide
theorem test_decode_gapDp : decode 0b000111#6 = .gapDp false := by decide
theorem test_decode_holdDp : decode 0b011000#6 = .holdDp true := by decide
theorem test_decode_gapEnd : decode 0b001001#6 = .gapEnd false := by decide
theorem test_decode_pad : decode 0b011010#6 = .pad true := by decide
theorem test_decode_recoverB : decode 0b001011#6 = .recoverB false := by decide
theorem test_decode_recoverCF : decode 0b011101#6 = .recoverCF true 0b01#2 := by decide

theorem test_bytes_none : decodeBytes [] = .error .noByte := by decide
theorem test_bytes_high : decodeBytes [0x40#8] = .error .notASelector := by decide
theorem test_bytes_two : decodeBytes [0x10#8, 0x00#8] = .error .trailingBytes := by decide
/-- The table's word of FEED, and a word whose bits above the selector are not 0. -/
theorem test_table_word : decodeTableWord 8 0x10 = some .feed ∧ decodeTableWord 8 0xD0 = none := by decide

/- ==== Small states ==== -/

/-- The input ports of a tick. -/
def tick (rst valid : Bool) (v : Sample) : Inputs := { ce := true, rst := rst, adcValid := valid, adcData := v }

/-- A tick with no reset and no sample. -/
def quiet : Inputs := tick false false 0

/-- The EX1 block in phase `p`, with the input words `ws` coming. -/
def ex1At (p : PhaseCode) (ws : List Inputs) : State := { State.ofBlock Block.ex1 with phase := p, stim := ws }

/-- The step answers a next state, and it has the property. -/
def stepGives (s : State) (p : State → Bool) : Bool :=
  match step s with
  | .next t => p t
  | _ => false

/-- The registers of the frame engine: PHASE, HC, FT, FV, DPP, SEG, DIG. -/
def frameRegs (s : State) : PhaseCode × Nat × Nat × Nat × Nat × SegVec × DigVec :=
  (s.phase, s.hc.toNat, s.ft.toNat, s.fv.toNat, s.dpp.toNat, s.seg, s.dig)

/-- The registers of the filter: ACC, CNT, DEC, VMV, DISP, OVF, LAST_SUM, BD. -/
def filterRegs (s : State) : (Nat × Nat × Nat × Nat) × (Nat × Bool × Nat × Bool) :=
  ((s.acc.toNat, s.cnt.toNat, s.dec.toNat, s.vmv), (s.disp.toNat, s.ovf, s.lastSum.toNat, s.bd))

/- ==== Single steps, section 3.7 and 3.3 ==== -/

/-- S1. -/
theorem test_reset : stepGives
    { ex1At 0x4 [tick true false 0] with
      acc := 100, cnt := 5, dec := 7, vmv := 1, disp := 3, hc := 33, ft := 500, fv := 2, dpp := 2, seg := 0x66,
      dig := 0b010 }
    (fun t => frameRegs t = (0x0, 0, 0, 0, 0, 0x00, 0b000) && filterRegs t = ((0, 0, 0, 0), (0, false, 0, false))) := by decide
/-- S2: the sample is not taken. -/
theorem test_reset_wins : stepGives { ex1At 0x0 [tick true true 512] with acc := 300, cnt := 3 }
    (fun t => t.phase = 0x0 && filterRegs t = ((0, 0, 0, 0), (0, false, 0, false))) := by decide
/-- S3. -/
theorem test_sampleWait : stepGives { ex1At 0x0 [quiet] with acc := 300, cnt := 3, disp := 55 }
    (fun t => t.phase = 0x0 && filterRegs t = ((300, 3, 0, 0), (55, false, 0, false))) := by decide
/-- F3: the 31st FEED returns nothing. -/
theorem test_feed_31 : stepGives { ex1At 0x0 [tick false true 1023] with acc := 30690, cnt := 30 }
    (fun t => t.phase = 0x1 && filterRegs t = ((31713, 31, 0, 0), (0, false, 0, false))) := by decide
/-- F4. -/
theorem test_feed_32 : stepGives { ex1At 0x0 [tick false true 512] with acc := 15872, cnt := 31 }
    (fun t => t.phase = 0x1 && filterRegs t = ((0, 0, 2048, 550), (55, false, 16384, true))) := by decide
/-- S6. -/
theorem test_setup : stepGives { ex1At 0x1 [quiet] with disp := 247 }
    (fun t => frameRegs t = (0x2, 599, 1, 24, 2, 0x07, 0b100)) := by decide
/-- S9: `adc_valid` is ignored. -/
theorem test_setup_reduces : stepGives { ex1At 0x1 [tick false true 5] with disp := 9999, ft := 10000, bd := true }
    (fun t => frameRegs t = (0x2, 1199, 1, 99, 1, 0x6F, 0b100) && filterRegs t = ((0, 0, 0, 0), (9999, false, 0, false))) := by
  decide
/-- S10. -/
theorem test_holdLit3 : stepGives
    { ex1At 0x2 [quiet] with hc := 599, ft := 1, fv := 24, dpp := 2, seg := 0x07, dig := 0b100 }
    (fun t => frameRegs t = (0x2, 598, 2, 24, 2, 0x07, 0b100)) := by decide
/-- S11. -/
theorem test_holdLit3_ends : stepGives
    { ex1At 0x2 [quiet] with hc := 0, ft := 600, fv := 24, dpp := 2, seg := 0x07, dig := 0b100 }
    (fun t => frameRegs t = (0x3, 0, 601, 24, 2, 0x00, 0b000)) := by decide
/-- S14. -/
theorem test_gapLoadGap3 : stepGives { ex1At 0x3 [quiet] with ft := 601, fv := 24, dpp := 2 }
    (fun t => frameRegs t = (0x4, 799, 602, 2, 2, 0x66, 0b010)) := by decide
/-- S13. -/
theorem test_holdLit2_ends : stepGives { ex1At 0x4 [quiet] with ft := 10000, dpp := 1, seg := 0x7F, dig := 0b010 }
    (fun t => frameRegs t = (0x5, 0, 10000, 0, 1, 0x00, 0b000)) := by decide
/-- S15. -/
theorem test_gapLoadGap2 : stepGives { ex1At 0x5 [quiet] with ft := 1402, fv := 2, dpp := 2 }
    (fun t => frameRegs t = (0x6, 999, 1403, 0, 2, 0x5B, 0b001)) := by decide
/-- S16: a leading zero is shown. -/
theorem test_gapLoadGap2_zero : stepGives { ex1At 0x5 [tick false true 9] with ft := 2402, dpp := 2 }
    (fun t => frameRegs t = (0x6, 1199, 2403, 0, 2, 0x3F, 0b001)) := by decide
/-- S12: the frame timer saturates. -/
theorem test_holdLit1 : stepGives { ex1At 0x6 [quiet] with hc := 7, ft := 10000, dpp := 1, seg := 0x7F, dig := 0b001 }
    (fun t => frameRegs t = (0x6, 6, 10000, 0, 1, 0x7F, 0b001)) := by decide
/-- S18. -/
theorem test_gapDp : stepGives { ex1At 0x7 [quiet] with ft := 3003, dpp := 1 }
    (fun t => frameRegs t = (0x8, 199, 3004, 0, 1, 0x80, 0b010)) := by decide
/-- S20: the reserved code lights nothing. -/
theorem test_gapDp_reserved : stepGives { ex1At 0x7 [quiet] with ft := 100, dpp := 3 }
    (fun t => frameRegs t = (0x8, 199, 101, 0, 3, 0x00, 0b000)) := by decide
/-- S21. -/
theorem test_holdDp : stepGives { ex1At 0x8 [quiet] with hc := 199, ft := 2404, dpp := 2, seg := 0x80, dig := 0b001 }
    (fun t => frameRegs t = (0x8, 198, 2405, 0, 2, 0x80, 0b001)) := by decide
/-- S22. -/
theorem test_holdDp_ends : stepGives { ex1At 0x8 [quiet] with ft := 2603, dpp := 2, seg := 0x80, dig := 0b001 }
    (fun t => frameRegs t = (0x9, 0, 2604, 0, 2, 0x00, 0b000)) := by decide
/-- S24. -/
theorem test_gapEnd : stepGives { ex1At 0x9 [quiet] with ft := 9998, dpp := 2 }
    (fun t => frameRegs t = (0xA, 0, 9999, 0, 2, 0x00, 0b000)) := by decide
/-- S25. -/
theorem test_gapEnd_deadline : stepGives { ex1At 0x9 [quiet] with ft := 9999, dpp := 2 }
    (fun t => frameRegs t = (0x0, 0, 10000, 0, 2, 0x00, 0b000)) := by decide
/-- S28. -/
theorem test_pad : stepGives { ex1At 0xA [quiet] with ft := 9998, dpp := 2 }
    (fun t => frameRegs t = (0xA, 0, 9999, 0, 2, 0x00, 0b000)) := by decide
/-- S29: the sample is not taken. -/
theorem test_pad_deadline : stepGives { ex1At 0xA [tick false true 100] with ft := 9999, dpp := 2 }
    (fun t => frameRegs t = (0x0, 0, 10000, 0, 2, 0x00, 0b000) && t.acc = 0 && t.cnt = 0) := by decide
/-- S30. -/
theorem test_recoverB : stepGives { ex1At 0xB [quiet] with ft := 40, seg := 0x7F, dig := 0b010 }
    (fun t => frameRegs t = (0x0, 0, 40, 0, 0, 0x00, 0b000)) := by decide
/-- S31: no sample is taken. -/
theorem test_recoverCF : stepGives { ex1At 0xF [tick false true 300] with acc := 9, cnt := 1 }
    (fun t => t.phase = 0x0 && filterRegs t = ((9, 1, 0, 0), (0, false, 0, false))) := by decide
/-- Q7. -/
theorem test_no_tick : stepGives { ex1At 0x2 [{ quiet with ce := false }] with hc := 5, ft := 7 }
    (fun t => frameRegs t = (0x2, 5, 7, 0, 0, 0x00, 0b000)) := by decide

/- ==== Tables ==== -/

/-- Section 3.3, both rounding modes. -/
theorem test_decimate_table :
    (decimated .bitTest 3, decimated .bitTest 4, decimated .bitTest 32731, decimated .bitTest 32736) = (0, 1, 4091, 4092) ∧
    (decimated .legacyAnd 0, decimated .legacyAnd 1, decimated .legacyAnd 32735, decimated .legacyAnd 32736) =
      (0, 1, 4092, 4093) := by decide

/-- Section 3.4 under EX1: the reading 2048. -/
theorem test_scale : ((State.ofBlock Block.ex1).scale 2048).vmv = 550 ∧ ((State.ofBlock Block.ex1).scale 2048).disp = 55 := by
  decide

/-- Section 3.5. -/
theorem test_rangeSelect :
    rangeSelect 0 = (0, 2) ∧ rangeSelect 999 = (999, 2) ∧ rangeSelect 1000 = (100, 1) ∧ rangeSelect 1009 = (100, 1) ∧
    rangeSelect 2048 = (204, 1) ∧ rangeSelect 9999 = (999, 1) := by decide

/-- Table T1 under EX1. -/
theorem test_rom : (patRom Block.ex1 0x7).seg = 0x07 ∧ (patRom Block.ex1 0x7).dur = 600 ∧
    (patRom Block.ex1 0xA).dur = 0 ∧ (patRom Block.ex1 0xF).seg = 0x00 := by decide

/-- Sections 3.6 and 4: the work of the frames that show 247 and 0, and the timeline at its edges. -/
theorem test_timeline : frameWork Block.ex1 247 = 2605 ∧ frameWork Block.ex1 0 = 3805 ∧
    timeline Block.ex1 247 600 = (0x2, 0b100, 0xF8) ∧ timeline Block.ex1 247 602 = (0x4, 0b010, 0x99) ∧
    timeline Block.ex1 247 2603 = (0x8, 0b001, 0x7F) ∧ timeline Block.ex1 247 2605 = (0xA, 0b000, 0xFF) := by decide

/-- Program P1: the word of `sample 512`. -/
theorem test_stimWord : stimWord false true 512 = 0x600#12 ∧ stimWord true false 7 = 0x800#12 := by decide

/- ==== Witnesses: concrete states and operands that meet the hypotheses of each statement ==== -/

/-- The state the step of `s` answers, or `s` where it answers none. -/
def after (s : State) : State :=
  match step s with
  | .next t => t
  | _ => s

/-- EX1 with another full scale and rounding mode. -/
def withScale (fs : Nat) (m : RoundMode) : Params := { Params.ex1 with fsMv := fs, roundMode := m }
def block99999 : Block := ⟨withScale 99999 .bitTest, by decide⟩
def block100000 : Block := ⟨withScale 100000 .bitTest, by decide⟩
def block99975 : Block := ⟨withScale 99975 .legacyAnd, by decide⟩
def block99976 : Block := ⟨withScale 99976 .legacyAnd, by decide⟩

/-- EX4 of section 2: frames overrun. -/
def block4 : Block := ⟨{ Params.ex1 with fsMv := 40920, baseUs := 4200, dpUs := 600 }, by decide⟩

/-- A full batch but for its last sample, of samples 1023, with that sample on the port. -/
def lastFeed (b : Block) : State :=
  { State.ofBlock b with acc := 31713, cnt := 31, stim := [tick false true 1023, quiet] }

/-- The middle of position 3 in the frame that follows program P1's batch: 5 of "0.55", `hc` ticks left. -/
def lit55 (hc : BitVec 16) : State :=
  { ex1At 0x2 [tick false true 5] with
    dec := 2048, vmv := 550, disp := 55, lastSum := 16384, hc := hc, ft := 300, fv := 5, dpp := 2, seg := 0x6D,
    dig := 0b100 }

/-- The first tick of the frame that shows `disp`, with `n` quiet ticks coming. -/
def frameStart (b : Block) (disp : BitVec 14) (n : Nat) : State :=
  { State.ofBlock b with phase := 0x1, disp := disp, stim := List.replicate n quiet }

/-- Words of normal running, repeated, make ticks of normal running. -/
theorem runsFor_replicate (s : State) (x : Inputs) (n : Nat) (hx : x.running = true)
    (h : s.stim = List.replicate n x) : s.RunsFor n := by
  intro j hj
  simp [State.inputsAt, h, hj, hx]

theorem lit55_inv : (lit55 7).Inv :=
  ⟨by decide, by decide, by decide, by decide, by decide, by decide, by decide, by decide, by decide, by decide, by decide,
    by decide⟩

theorem lit55_last_inv : (lit55 0).Inv :=
  ⟨by decide, by decide, by decide, by decide, by decide, by decide, by decide, by decide, by decide, by decide, by decide,
    by decide⟩

theorem sample_inv : (ex1At 0x0 [quiet]).Inv :=
  ⟨by decide, by decide, by decide, by decide, by decide, by decide, by decide, by decide, by decide, by decide, by decide,
    by decide⟩

theorem lit55_readings : (lit55 7).ReadingsFollow := ⟨by decide, by decide, by decide, by decide, by decide⟩

theorem lit55_shows : (lit55 7).FrameShows :=
  ⟨by decide, by decide, by decide, by decide, by decide, by decide, by decide, by decide⟩

theorem witness_DecodeInvertsEncode : (Instr.recoverCF true 0b10#2).wellFormed = true := by decide

theorem witness_StepRunsSelectedOperation :
    (ex1At 0x1 [quiet]).inputs.ce = true ∧
    decode (Selector.pack (ex1At 0x1 [quiet]).inputs.rst (ex1At 0x1 [quiet]).inputs.adcValid 0x1) = .setup false := by
  decide

theorem witness_EdgeWithoutTickChangesNoRegister :
    (ex1At 0x2 [{ quiet with ce := false }]).inputs.ce = false ∧
    (ex1At 0x2 [{ quiet with ce := false }]).inputs.rst = false := by decide

theorem witness_PlacedSelectorIsRunNext :
    (∃ t, exec .feed ((lit55 7).withFetchWord 8 (encode .feed).toNat) = .next t) ∧
    (∃ t, exec (.reset true 0x7) ((lit55 7).withFetchWord 8 (encode (.reset true 0x7)).toNat) = .next t) ∧
    (∃ t, exec (.recoverCF true 3) ((lit55 7).withFetchWord 8 (encode (.recoverCF true 3)).toNat) = .next t) :=
  ⟨⟨_, rfl⟩, ⟨_, rfl⟩, ⟨_, rfl⟩⟩

/-- Every phase code, and a reset. -/
theorem witness_PhaseSuccession :
    (∀ p : PhaseCode, (ex1At p [quiet]).inputs.ce = true ∧ (ex1At p [quiet]).inputs.rst = false ∧
      (ex1At p [quiet]).phase = p) ∧
    (ex1At 0x4 [tick true false 0]).inputs.rst = true := ⟨fun _ => ⟨rfl, rfl, rfl⟩, rfl⟩

theorem witness_ResetClearsEveryRegister : { lit55 7 with stim := [{ tick true true 9 with ce := false }] }.inputs.rst = true := by
  decide

theorem witness_AfterResetTheBlockAsksForASample :
    (ex1At 0x4 [tick true false 0, quiet]).inputs.rst = true ∧
    step (ex1At 0x4 [tick true false 0, quiet]) = .next (after (ex1At 0x4 [tick true false 0, quiet])) ∧
    (after (ex1At 0x4 [tick true false 0, quiet])).inputs.rst = false := ⟨rfl, rfl, rfl⟩

theorem witness_HeldResetKeepsTheResetState :
    (∀ j < 0 + 1, (ex1At 0x4 [tick true true 9]).inputsAt j |>.rst) ∧
    (∀ j < 4 + 1, (ex1At 0x4 (List.replicate 5 (tick true true 9))).inputsAt j |>.rst) := by decide

theorem witness_OnlyAdmissibleConfigurationsAreBuilt :
    Params.ex1.Admissible ∧ ¬ { Params.ex1 with dpUs := 65537 }.Admissible := by decide

theorem witness_ConfigurationNeverChanges :
    exec .sampleWait (lit55 7) = .next { lit55 7 with bd := false } ∧ step (lit55 7) = .next (after (lit55 7)) := ⟨rfl, rfl⟩

theorem witness_SampleWaitOnlyClearsBatchDone :
    (ex1At 0x0 [quiet]).phase = 0x0#4 ∧ (ex1At 0x0 [quiet]).Inv := ⟨rfl, sample_inv⟩

theorem witness_WaitingForASampleHasNoTimeout :
    (ex1At 0x0 [quiet, quiet, quiet]).phase = 0x0#4 ∧
    ∀ j < 2 + 1, ((ex1At 0x0 [quiet, quiet, quiet]).inputsAt j).running = true ∧
      ((ex1At 0x0 [quiet, quiet, quiet]).inputsAt j).adcValid = false := by decide

theorem witness_RecoverGoesDarkToSample :
    (ex1At 0xB [quiet]).inputs.running = true ∧ (ex1At 0xB [quiet]).operation = .recoverB false ∧
    (ex1At 0xF [quiet]).inputs.running = true ∧ (ex1At 0xF [quiet]).operation = .recoverCF false 3 := by decide

theorem witness_AdcInputsHaveNoEffectOutsideSample :
    (lit55 7).phase ≠ 0x0#4 ∧ quiet.ce = (tick false true 1023).ce ∧ quiet.rst = (tick false true 1023).rst := by decide

/-- A sum inside the batch's range, and the largest that fits 15 bits. -/
theorem witness_FeedTakesTheSampleIntoTheBatch :
    (∃ s : State, s.cnt.toNat ≠ 31 ∧ s.acc.toNat + s.inputs.adcData.toNat = 1123) ∧
    ∃ s : State, s.cnt.toNat ≠ 31 ∧ s.acc.toNat + s.inputs.adcData.toNat = 2 ^ 15 - 1 :=
  ⟨⟨{ ex1At 0x0 [tick false true 1023] with acc := 100, cnt := 5 }, by decide, by decide⟩,
    { ex1At 0x0 [tick false true 1023] with acc := 31744, cnt := 30 }, by decide, by decide⟩

/-- The largest sum, in both rounding modes, with and without the clamp. -/
theorem witness_FeedCompletesTheBatch :
    ∀ b ∈ [block99999, block100000, block99975, block99976],
      (lastFeed b).cnt.toNat = 31 ∧ (lastFeed b).acc.toNat + (lastFeed b).inputs.adcData.toNat = 32736 := by decide

theorem witness_FeedCompletesWhateverTheSum :
    (lastFeed Block.ex1).cnt.toNat = 31 ∧ { lastFeed Block.ex1 with cnt := 30 }.cnt.toNat ≠ 31 ∧
    (lastFeed Block.ex1).acc.toNat + (lastFeed Block.ex1).inputs.adcData.toNat < 2 ^ 15 := by decide

/-- The largest readings that fit DEC, and the one sum whose reading does not. -/
theorem witness_FeedCompletesWhateverTheSum_reading :
    decimated .bitTest 32736 < 2 ^ 12 ∧ decimated .legacyAnd 32736 < 2 ^ 12 ∧ ¬ decimated .legacyAnd 32767 < 2 ^ 12 := by
  decide

theorem witness_DecimationRoundsHalfUp : (32736#15).toNat ≤ 32736 := by decide

theorem witness_BatchIsTheSumOf32Samples :
    (State.ofBlock Block.ex1).acc = 0 ∧ (State.ofBlock Block.ex1).cnt = 0 ∧
    ∀ n ∈ [1, 31, 32], 1 ≤ (List.replicate n (512#10)).length ∧ (List.replicate n (512#10)).length ≤ 32 := by decide

theorem witness_IdenticalSamplesReadFourTimesTheValue :
    ∀ b ∈ [block99999, block99975], (State.ofBlock b).acc = 0 ∧ (State.ofBlock b).cnt = 0 := by decide

theorem witness_ClampEngagesAtFullScale :
    ∀ b ∈ [block99999, block100000, block99975, block99976],
      (lastFeed b).cnt.toNat = 31 ∧ (lastFeed b).acc.toNat + (lastFeed b).inputs.adcData.toNat = 32736 := by decide

theorem witness_ClampEngagesAtFullScale_modes :
    block99999.val.roundMode = .bitTest ∧ block99999.val.fsMv < 100000 ∧
    block100000.val.roundMode = .bitTest ∧ 100000 ≤ block100000.val.fsMv ∧
    block99975.val.roundMode = .legacyAnd ∧ block99975.val.fsMv < 99976 ∧
    block99976.val.roundMode = .legacyAnd ∧ 99976 ≤ block99976.val.fsMv := by decide

theorem witness_OnlyFeedAndResetWriteTheFilter :
    Instr.holdLit3 true ≠ .feed ∧ (∀ v p, Instr.holdLit3 true ≠ .reset v p) ∧
    ∃ t, exec (.holdLit3 true) (lit55 7) = .next t := ⟨by decide, fun _ _ => by simp, _, rfl⟩

theorem witness_SamplingKeepsTheFrameRegisters :
    (∃ t, exec .feed (lit55 7) = .next t) ∧ ∃ t, exec .sampleWait (lit55 7) = .next t := ⟨⟨_, rfl⟩, _, rfl⟩

theorem witness_SetupReadsTheFreshReading :
    (lastFeed Block.ex1).RunsFor 2 ∧ (lastFeed Block.ex1).transfers = true ∧ (lastFeed Block.ex1).cnt.toNat = 31 :=
  ⟨by unfold State.RunsFor; decide, by decide, by decide⟩

theorem witness_BlankAndReservedCodesAreDark : 0xA ≤ (0xA#4).toNat ∧ 0xA ≤ (0xF#4).toNat := by decide

theorem witness_DriveWritesOnlyTheSegments : 0xA ≤ (0xC#4).toNat := by decide

theorem witness_RangeSelectKeepsThreeDigits : 999 ≤ 9999 ∧ 999 < 1000 ∧ 9999 ≤ 9999 ∧ ¬ 1000 < 1000 := by decide

theorem witness_SetupStartsTheFrame :
    ∀ d ∈ [0, 999, 1000, 9999], (frameStart Block.ex1 (BitVec.ofNat 14 d) 1).disp.toNat ≤ 9999 := by decide

/-- SETUP and GAP_LOAD ticks in states that R42 admits. -/
theorem frameStart_inv : (frameStart Block.ex1 0 1).Inv :=
  ⟨by decide, by decide, by decide, by decide, by decide, by decide, by decide, by decide, by decide, by decide, by decide,
    by decide⟩

theorem witness_GapLoadsTheNextPosition :
    { lit55 0 with phase := 0x3, seg := 0x00, dig := 0b000 }.Inv ∧
    { lit55 0 with phase := 0x5, fv := 0, seg := 0x00, dig := 0b000 }.Inv :=
  ⟨⟨by decide, by decide, by decide, by decide, by decide, by decide, by decide, by decide, by decide, by decide, by decide,
      by decide⟩,
    by decide, by decide, by decide, by decide, by decide, by decide, by decide, by decide, by decide, by decide, by decide,
    by decide⟩

theorem witness_HoldCountsDownThenGoesDark :
    (lit55 0).hc.toNat = 0 ∧ (lit55 1).hc.toNat ≠ 0 ∧ (lit55 65535).hc.toNat ≠ 0 := by decide

theorem witness_GapLightsTheDecimalPoint :
    ∀ c : BitVec 2, { ex1At 0x7 [quiet] with dpp := c }.dpp = c := fun _ => rfl

theorem witness_StepKeepsTheReachableInvariant :
    (lit55 7).Inv ∧ step (lit55 7) = .next (after (lit55 7)) := ⟨lit55_inv, rfl⟩

theorem witness_StepKeepsTheReadingsTrue :
    (lit55 7).Inv ∧ (lit55 7).ReadingsFollow ∧ step (lit55 7) = .next (after (lit55 7)) :=
  ⟨lit55_inv, lit55_readings, rfl⟩

theorem witness_StepKeepsTheFrameTrue :
    (lit55 7).Inv ∧ (lit55 7).FrameShows ∧ step (lit55 7) = .next (after (lit55 7)) :=
  ⟨lit55_inv, lit55_shows, rfl⟩

theorem witness_BatchDoneIsOneTick :
    (lastFeed Block.ex1).inputs.active = true ∧ step (lastFeed Block.ex1) = .next (after (lastFeed Block.ex1)) ∧
    (after (lastFeed Block.ex1)).bd = true := ⟨rfl, rfl, rfl⟩

theorem witness_VoltageFitsItsWidth : (lit55 7).ReadingsFollow ∧ (lit55 7).vmv = 550 := ⟨lit55_readings, rfl⟩

/-- A lit tick followed by a lit tick, a lit sub-frame entered, and one left. -/
theorem witness_BreakBeforeMake :
    ((lit55 7).Inv ∧ step (lit55 7) = .next (after (lit55 7)) ∧ (lit55 7).dig ≠ 0 ∧ (after (lit55 7)).dig ≠ 0) ∧
    ((lit55 0).Inv ∧ step (lit55 0) = .next (after (lit55 0)) ∧ (after (lit55 0)).phase ≠ (lit55 0).phase ∧
      (lit55 0).dig ≠ 0) ∧
    ∃ s : State, s.Inv ∧ step s = .next (after s) ∧ (after s).phase ≠ s.phase ∧ (after s).dig ≠ 0 :=
  ⟨⟨lit55_inv, rfl, by decide, by decide⟩, ⟨lit55_last_inv, rfl, by decide, by decide⟩,
    frameStart Block.ex1 0 1, frameStart_inv, rfl, by decide, by decide⟩

theorem witness_EveryTickBringsSampleNearer :
    (∀ p : PhaseCode, (ex1At p [quiet]).inputs.running = true) ∧ (lit55 7).inputs.running = true ∧
    (lit55 7).phase ≠ 0x0#4 := by decide

/-- A budget that fits, and one that does not. -/
theorem witness_FrameLengthAndBudget :
    3 * Block.ex1.val.dur 8 + Block.ex1.val.dpUs + 5 ≤ 10000 ∧ ¬ 3 * block4.val.dur 8 + block4.val.dpUs + 5 ≤ 10000 := by
  decide

/-- The first tick, the second, the last of a padded frame, and the last of an overrun one. -/
theorem witness_FrameTimeline :
    ∀ p ∈ [(Block.ex1, 247#14, 0), (Block.ex1, 247#14, 1), (Block.ex1, 9999#14, 9999), (block4, 888#14, 13204)],
      (frameStart p.1 p.2.1 p.2.2).phase = 0x1#4 ∧ (frameStart p.1 p.2.1 p.2.2).seg = 0x00#8 ∧
      (frameStart p.1 p.2.1 p.2.2).dig = 0b000#3 ∧ p.2.1.toNat ≤ 9999 ∧
      (frameStart p.1 p.2.1 p.2.2).RunsFor p.2.2 ∧ p.2.2 < frameLength p.1 p.2.1.toNat := by
  intro p hp
  refine ⟨rfl, rfl, rfl, ?_, runsFor_replicate _ quiet _ rfl rfl, ?_⟩ <;> revert p <;> decide

/-- Program P1's first tick in SAMPLE, the same sample offered on `n` more edges. -/
def offered (n : Nat) : State := ex1At 0x0 (tick false true 512 :: List.replicate n (tick false true 512))

theorem offered_inv (n : Nat) : (offered n).Inv := by
  have h := sample_inv
  exact ⟨h.1, h.2, h.3, h.4, h.5, h.6, h.7, h.8, h.9, h.10, h.11, h.12⟩

theorem offered_runsFor (n : Nat) : (offered n).RunsFor (1 + n) :=
  runsFor_replicate _ (tick false true 512) _ rfl (by rw [Nat.add_comm]; exact List.replicate_succ.symm)

/-- Its FEED: the first sample of a batch (vector F1 with 512). -/
def offeredFed (n : Nat) : State :=
  { ex1At 0x1 (List.replicate n (tick false true 512)) with acc := 512, cnt := 1, edge := 1 }

theorem offered_step (n : Nat) : step (offered n) = .next (offeredFed n) := by
  have hop : (offered n).operation = .feed := by rw [State.operation_running _ rfl]; rfl
  have hin : (offered n).acc.toNat + (offered n).inputs.adcData.toNat = 512 := by
    rw [show (offered n).acc = 0 from rfl, show (offered n).inputs.adcData = 512 from rfl]
    decide
  have hsum : (offered n).feedSum = 512 :=
    BitVec.eq_of_toNat_eq (by rw [State.feedSum_toNat _ (by rw [hin]; decide), hin]; decide)
  have he : exec .feed (offered n) = .next { offered n with acc := 512, cnt := 1, phase := 0x1 } := by
    rcases execFeed_cases (offered n) with ⟨_, h⟩ | ⟨h, _⟩
    · rw [exec, h, hsum]; rfl
    · exact absurd h (by rw [show (offered n).cnt = 0 from rfl]; decide)
  exact step_operation rfl (hop ▸ he)

/-- Program P1's first sample and the frame after it. -/
theorem witness_IterationIsOneSampleAndOneFrame :
    (offered 10000).Inv ∧ (offered 10000).transfers = true ∧
    step (offered 10000) = .next (offeredFed 10000) ∧
    (offered 10000).RunsFor (1 + frameLength (offeredFed 10000).block (offeredFed 10000).disp.toNat) := by
  have h : frameLength Block.ex1 0 = 10000 := by decide
  refine ⟨offered_inv _, rfl, offered_step _, ?_⟩
  show (offered 10000).RunsFor (1 + frameLength Block.ex1 0)
  rw [h]
  exact offered_runsFor _

/-- A sample inside a batch, one that completes it, and the largest sum that fits 15 bits. -/
theorem witness_ScriptDirectivesReachTheirEnd :
    ((lit55 7).acc.toNat + (512#10).toNat < 2 ^ 15 ∧ (lit55 7).cnt.toNat ≠ 31) ∧
    ((lastFeed Block.ex1).acc.toNat + (1023#10).toNat < 2 ^ 15 ∧ (lastFeed Block.ex1).cnt.toNat = 31) ∧
    { lit55 7 with acc := 31744 }.acc.toNat + (1023#10).toNat = 2 ^ 15 - 1 := by decide

/-- Directive `sample`: it carries the sample it names (R93), offered in SAMPLE. -/
theorem test_sample_words : (Directive.sample 512).words (ex1At 0x0 []) = [0x600#12] := by decide

end Sys2Proof.Tests
end

section
/-! PROOFS. The output ports (spec/10_state.md R22): what each port shows, once per port, and the obligation assembled
from these laws. -/

namespace Sys2Proof.Machine

@[simp] theorem State.outputs_segN (s : State) : s.outputs.segN = ~~~s.seg := rfl
@[simp] theorem State.outputs_dig (s : State) : s.outputs.dig = s.dig := rfl
@[simp] theorem State.outputs_batchDone (s : State) : s.outputs.batchDone = s.bd := rfl
@[simp] theorem State.outputs_dec (s : State) : s.outputs.dec = s.dec := rfl
@[simp] theorem State.outputs_vmv (s : State) : s.outputs.vmv = s.vmv := rfl
@[simp] theorem State.outputs_disp (s : State) : s.outputs.disp = s.disp := rfl
@[simp] theorem State.outputs_ovf (s : State) : s.outputs.ovf = s.ovf := rfl
@[simp] theorem State.outputs_lastSum (s : State) : s.outputs.lastSum = s.lastSum := rfl

/-- `adc_req` is a test of PHASE alone: the block asks for a sample in SAMPLE and in no other phase (R231). -/
@[simp] theorem State.outputs_adcReq_iff (s : State) : s.outputs.adcReq = true ↔ s.phase = Phase.sample :=
  beq_iff_eq

/-- A segment line is LOW exactly where the logical segment is lit (R22, R37). -/
theorem State.outputs_segN_getLsbD (s : State) {i : Nat} (hi : i < 8) :
    s.outputs.segN.getLsbD i = !s.seg.getLsbD i := by
  rw [State.outputs_segN, BitVec.getLsbD_not, decide_eq_true hi, Bool.true_and]

/-- Settles O43, port by port: the two computed ports are `seg_n` and `adc_req`, and each other port is its register. -/
theorem outputPortsShowTheRegisters : Obligations.OutputPortsShowTheRegisters := fun s =>
  ⟨fun _ hi => s.outputs_segN_getLsbD hi, s.outputs_dig, s.outputs_adcReq_iff, s.outputs_batchDone, s.outputs_dec,
    s.outputs_vmv, s.outputs_disp, s.outputs_ovf, s.outputs_lastSum⟩

end Sys2Proof.Machine
end

section
/-! PROOFS. The pattern table (spec/40_pattern_table.md R112, R114, R115): a code that is no digit reads the Blank entry,
and the Blank entry is dark. -/

namespace Sys2Proof.Machine

@[simp] theorem RomEntry.blank_seg : RomEntry.blank.seg = 0x00#8 := rfl
@[simp] theorem RomEntry.blank_dur : RomEntry.blank.dur = 0#17 := rfl

/-- Settles O29: such a code is outside the ten digits, so LOOKUP takes its Blank branch (`patRom_not_digit`). -/
theorem blankAndReservedCodesAreDark : Obligations.BlankAndReservedCodesAreDark := by
  intro b c hc
  have hblank : patRom b c = RomEntry.blank := patRom_not_digit b c hc
  rw [hblank]
  exact ⟨RomEntry.blank_seg, congrArg BitVec.toNat RomEntry.blank_dur⟩

end Sys2Proof.Machine
end

section
/-! PROOFS. The digit driver (spec/41_digit_driver.md R130, R132, R134): DRIVE is the pattern lookup followed by one
register write, so a code that the table leaves dark is driven dark. -/

namespace Sys2Proof.Machine

/-- DRIVE as one equation (R130): the frame and the returned duration. -/
theorem State.drive_eq (s : State) (c : PatCode) :
    s.drive c = ({ s with seg := (patRom s.block c).seg }, (patRom s.block c).dur) := rfl

@[simp] theorem State.drive_dur (s : State) (c : PatCode) : (s.drive c).2 = (patRom s.block c).dur := rfl

/-- Settles O34: the frame is `State.drive_eq`, and the dark codes are those of the pattern table (O29). -/
theorem driveWritesOnlyTheSegments : Obligations.DriveWritesOnlyTheSegments := by
  intro s c
  refine ⟨s.drive_eq c, fun hc => ?_⟩
  obtain ⟨hseg, hdur⟩ := blankAndReservedCodesAreDark s.block c hc
  rw [State.drive_seg, State.drive_dur]
  exact ⟨hseg, hdur⟩

end Sys2Proof.Machine
end

section
/-! PROOFS. RangeSelect and dpOnehot (spec/42_multiplexer.md R153, R156): the value a frame shows has three digits, and
its places choose the line of the decimal point. -/

namespace Sys2Proof.Machine

/-- The value of a frame has at most three digits (R153), for every DISP that R28 admits. -/
theorem rangeSelect_fst_le {v : Nat} (h : v ≤ 9999) : (rangeSelect v).1 ≤ 999 := by
  rcases rangeSelect_cases v with ⟨hlow, hr⟩ | ⟨_, hr⟩
  · rw [hr]
    exact Nat.le_of_lt_succ hlow
  · rw [hr]
    show v / 10 ≤ 999
    omega

/-- Settles O35, by the two ranges of `rangeSelect_cases`. -/
theorem rangeSelectKeepsThreeDigits : Obligations.RangeSelectKeepsThreeDigits := by
  intro v hv
  refine ⟨?_, rangeSelect_fst_le hv⟩
  rcases rangeSelect_cases v with ⟨hlow, hr⟩ | ⟨hhigh, hr⟩
  · rwa [if_pos hlow]
  · rwa [if_neg (Nat.not_lt.mpr hhigh)]

/-- Settles O36: each of the four codes is a row of the table that defines `dpOnehot`. -/
theorem pointPositionFollowsThePlaces : Obligations.PointPositionFollowsThePlaces :=
  ⟨rfl, rfl, rfl, rfl⟩

end Sys2Proof.Machine
end

section
/-! PROOFS. The display multiplexer (spec/42_multiplexer.md R152 to R163): what each operation of a frame writes and what
it leaves unchanged. The lemmas are over the shared operations, so the three digit positions are uses of one. -/

namespace Sys2Proof.Machine

/-- The lit phases are LIT3, LIT2, LIT1 and LITDP: any other phase code is not lit. -/
theorem State.not_lit_of_phase {s : State} {c : PhaseCode} (hphase : s.phase = c)
    (hc : c ∉ [Phase.lit3, Phase.lit2, Phase.lit1, Phase.litDp]) : ¬ s.lit := by
  intro hlit
  apply hc
  rw [← hphase]
  rcases hlit with (h | h | h) | h <;> simp [h]

/-- Outside the lit phases every line is off (R42, items 3 and 4): the tick between two lit positions shows nothing. -/
theorem State.Inv.dark_of_not_lit {s : State} (hs : s.Inv) (h : ¬ s.lit) :
    s.outputs.segN = 0xFF#8 ∧ s.outputs.dig = 0b000#3 := by
  have hdig : s.dig = 0b000 := not_not.mp fun hne => h (hs.lineIffLit.mp hne)
  have hseg : s.seg = 0x00 := hs.darkSeg hdig
  rw [State.outputs_segN, State.outputs_dig, hdig, hseg]
  exact ⟨rfl, rfl⟩

/-- HOLD's last tick (R158): everything off, and on to the next phase. -/
theorem State.hold_of_hc_zero {s : State} (next : PhaseCode) (h : s.hc = 0) :
    s.hold next = s.tickFrame.dark.goto next := by
  rcases s.hold_cases next with ⟨_, hold⟩ | ⟨hne, _, _⟩
  · exact hold
  · exact absurd h hne

/-- HOLD before its last tick (R158): the count goes down by 1, without wrapping. -/
theorem State.hold_of_hc_ne_zero {s : State} (next : PhaseCode) (h : s.hc ≠ 0) :
    (s.hold next).hc.toNat + 1 = s.hc.toNat ∧ s.hold next = { s.tickFrame with hc := (s.hold next).hc } := by
  rcases s.hold_cases next with ⟨hz, _⟩ | ⟨_, hcount, hold⟩
  · exact absurd hz h
  · rw [hold]
    refine ⟨?_, rfl⟩
    have hpos : s.hc.toNat ≠ 0 := fun hz => h (BitVec.eq_of_toNat_eq hz)
    show (s.hc - 1).toNat + 1 = s.hc.toNat
    omega

/-- HOLD counts the tick whichever branch it takes (R162). -/
theorem State.hold_ft (s : State) (next : PhaseCode) : (s.hold next).ft = s.tickFrame.ft := by
  rcases s.hold_cases next with ⟨_, hold⟩ | ⟨_, _, hold⟩
  · rw [hold]; rfl
  · rw [hold]

/-- Everything HOLD does to a state, as an operation performs it (R158, R161). -/
theorem State.clearBd_hold_spec (s : State) (next : PhaseCode) :
    let t := s.clearBd.hold next
    t.ft.toNat = min (s.ft.toNat + 1) 10000 ∧
    (s.hc.toNat = 0 → t = { s with ft := t.ft, seg := 0x00#8, dig := 0b000#3, phase := next, bd := false }) ∧
    (s.hc.toNat ≠ 0 → t.hc.toNat + 1 = s.hc.toNat ∧ t = { s with ft := t.ft, hc := t.hc, bd := false }) := by
  intro t
  have hft : t.ft = s.clearBd.tickFrame.ft := s.clearBd.hold_ft next
  refine ⟨?counts, fun hz => ?dark, fun hne => ?down⟩
  case counts => rw [hft]; exact s.clearBd.tickFrame_ft_toNat
  case dark =>
    have hlast : s.clearBd.hc = 0 := BitVec.eq_of_toNat_eq hz
    rw [hft]
    exact State.hold_of_hc_zero next hlast
  case down =>
    have hrest : s.clearBd.hc ≠ 0 := fun hz => hne (congrArg BitVec.toNat hz)
    obtain ⟨hcount, hframe⟩ := State.hold_of_hc_ne_zero next hrest
    rw [hft]
    exact ⟨hcount, hframe⟩

/-- Everything GAP_LOAD does to a state (R159), whichever position and phase it goes on to. -/
theorem State.clearBd_tickFrame_load_spec (s : State) (p : Position) (next : PhaseCode) :
    let t := (s.clearBd.tickFrame.load p s.fv.toNat).goto next
    t.ft.toNat = min (s.ft.toNat + 1) 10000 ∧
    t.seg = (patRom s.block (digitCode s.fv.toNat)).seg ∧
    t.hc.toNat + 1 = (patRom s.block (digitCode s.fv.toNat)).dur.toNat ∧
    t.fv.toNat = s.fv.toNat / 10 ∧
    t = { s with
      ft := t.ft, seg := t.seg, dig := onehot p, hc := t.hc, fv := t.fv, phase := next, bd := false } := by
  have hfv : s.fv.toNat < 10240 := Nat.lt_trans s.fv.isLt (by decide)
  exact ⟨s.clearBd.tickFrame_ft_toNat, s.clearBd.tickFrame.load_seg p _, s.clearBd.tickFrame.load_hc_toNat p _,
    s.clearBd.tickFrame.load_fv_toNat p _ hfv, rfl⟩

/-- Settles O37: LOAD's laws at position 3 for the value RangeSelect gives, then the range of DISP decides DPP and FV. -/
theorem setupStartsTheFrame : Obligations.SetupStartsTheFrame := by
  intro s v hdisp
  have hx : (rangeSelect s.disp.toNat).1 < 10240 := Nat.lt_of_le_of_lt (rangeSelect_fst_le hdisp) (by decide)
  have hfv := s.clearBd.load_fv_toNat .p3 _ hx
  refine ⟨_, rfl, ?dark, ?range, s.clearBd.load_seg .p3 _, s.clearBd.load_hc_toNat .p3 _, rfl, rfl⟩
  case dark =>
    intro hs hphase
    exact hs.dark_of_not_lit (State.not_lit_of_phase hphase (by decide))
  case range =>
    rcases rangeSelect_cases s.disp.toNat with ⟨hlow, hr⟩ | ⟨hhigh, hr⟩
    · rw [if_pos hlow]
      exact ⟨congrArg Prod.snd hr, hfv.trans (by rw [hr])⟩
    · rw [if_neg (Nat.not_lt.mpr hhigh)]
      exact ⟨congrArg Prod.snd hr, hfv.trans (by rw [hr])⟩

/-- Settles O38: the four operations are HOLD with the phase that follows each. -/
theorem holdCountsDownThenGoesDark : Obligations.HoldCountsDownThenGoesDark := by
  intro s v
  simp only [List.forall_mem_cons]
  exact ⟨⟨_, rfl, s.clearBd_hold_spec Phase.gap3⟩, ⟨_, rfl, s.clearBd_hold_spec Phase.gap2⟩,
    ⟨_, rfl, s.clearBd_hold_spec Phase.gap1⟩, ⟨_, rfl, s.clearBd_hold_spec Phase.gapDp⟩, List.forall_mem_nil _⟩

/-- Settles O39: no gap is a lit phase, and both operations are LOAD with the position and phase that follow. -/
theorem gapLoadsTheNextPosition : Obligations.GapLoadsTheNextPosition := by
  intro s v
  refine ⟨?dark, ?loads⟩
  case dark =>
    rintro hs (hphase | hphase) <;> exact hs.dark_of_not_lit (State.not_lit_of_phase hphase (by decide))
  case loads =>
    simp only [List.forall_mem_cons]
    exact ⟨⟨_, rfl, s.clearBd_tickFrame_load_spec .p2 Phase.lit2⟩,
      ⟨_, rfl, s.clearBd_tickFrame_load_spec .p1 Phase.lit1⟩, List.forall_mem_nil _⟩

/-- The hold count that GAP_DP writes fits its register (R8, R160): LITDP lasts `DP_US` ticks. -/
theorem Block.pointHold_toNat (b : Block) : (BitVec.ofNat 16 (b.val.dpUs - 1)).toNat + 1 = b.val.dpUs := by
  have hrange := b.dpUs_range
  rw [BitVec.toNat_ofNat]
  omega

/-- Settles O40: the line and the segments are the row of `dpOnehot` for the code, all four of which O36 gives. -/
theorem gapLightsTheDecimalPoint : Obligations.GapLightsTheDecimalPoint := by
  intro s v
  obtain ⟨htwo, hone, hnone, hreserved⟩ := pointPositionFollowsThePlaces
  have hpoint {c : BitVec 2} {g : DigVec × SegVec} (hrow : dpOnehot c = g) (hc : s.dpp = c) :
      (dpOnehot s.dpp).1 = g.1 ∧ (dpOnehot s.dpp).2 = g.2 := by
    rw [hc, hrow]
    exact ⟨rfl, rfl⟩
  exact ⟨_, rfl, s.clearBd.tickFrame_ft_toNat, Block.pointHold_toNat s.block,
    hpoint htwo, hpoint hone, hpoint hnone, hpoint hreserved, rfl⟩

/-- GAP_END's tick as one equation (R163): the phase after it is decided by FT as this tick leaves it. -/
theorem State.endOrPad_eq (s : State) :
    s.endOrPad = s.tickFrame.goto (if s.tickFrame.ft.toNat = 10000 then Phase.sample else Phase.pad) :=
  (apply_ite (fun p => s.tickFrame.goto p) (s.tickFrame.ft.toNat = 10000) Phase.sample Phase.pad).symm

/-- Settles O41: the tick is counted first (`State.tickFrame_ft_toNat`), and `State.endOrPad_eq` gives the phase. -/
theorem gapEndPadsOrEndsTheFrame : Obligations.GapEndPadsOrEndsTheFrame := by
  intro s v
  exact ⟨_, congrArg Host.Outcome.next s.clearBd.endOrPad_eq, s.clearBd.tickFrame_ft_toNat, rfl⟩

end Sys2Proof.Machine
end

section
/-! PROOFS. The oversampling filter (spec/43_filter.md R190 to R197): the reading of a sum in each rounding mode, what SCALE
and DECIMATE make of it, and the FEED that completes a batch. -/

namespace Sys2Proof.Machine

/-- The reading under `BIT_TEST` (R192, R193): the bit below the cut decides the rounding. -/
theorem decimated_bitTest (a : BitVec 15) :
    decimated .bitTest a = a.toNat / 2 ^ 3 + (if a.getLsbD 2 then 1 else 0) :=
  congrArg (· + _) (Nat.shiftRight_eq_div_pow a.toNat 3)

/-- The reading under `LEGACY_AND` (R192, R193): every sum but 0 is rounded up. -/
theorem decimated_legacyAnd (a : BitVec 15) :
    decimated .legacyAnd a = a.toNat / 2 ^ 3 + (if a.toNat ≠ 0 then 1 else 0) := by
  have hflag : roundFlag .legacyAnd a = if a.toNat ≠ 0 then 1 else 0 := by
    rw [ite_not]
    exact if_congr (BitVec.toNat_inj (y := 0)).symm rfl rfl
  rw [decimated, hflag, Config.decShift_eq, Nat.shiftRight_eq_div_pow]

/-- The reading of every sum that R42 admits is at most 4093, whatever the mode (R194). -/
theorem decimated_le (m : RoundMode) {a : BitVec 15} (ha : a.toNat ≤ 32736) : decimated m a ≤ 4093 := by
  obtain ⟨_, hupper⟩ := decimated_bounds m a
  omega

/-- DECIMATE leaves the reading in DEC where it fits the 12 bits (R192, R26). -/
theorem State.decimate_dec_toNat (s : State) {a : BitVec 15} (hfits : decimated s.block.val.roundMode a < 2 ^ 12) :
    (s.decimate a).dec.toNat = decimated s.block.val.roundMode a := by
  rw [State.decimate_dec, if_pos hfits, BitVec.toNat_ofNat, Nat.mod_eq_of_lt hfits]

/-- SCALE's two cases (R197): the display value is the voltage over 10, or the clamp with OVF set. -/
theorem State.scale_clamp (s : State) (q : Nat) :
    let t := s.scale q
    if 9999 < t.vmv / 10 then t.disp.toNat = 9999 ∧ t.ovf = true
    else t.disp.toNat = t.vmv / 10 ∧ t.ovf = false := by
  intro t
  have hdisp : t.disp.toNat = min 9999 (t.vmv / 10) := s.scale_disp_toNat q
  have hovf : t.ovf = true ↔ 9999 < t.vmv / 10 := overflows_iff _
  split
  case isTrue hover => exact ⟨hdisp.trans (Nat.min_eq_left hover.le), hovf.mpr hover⟩
  case isFalse hin =>
    exact ⟨hdisp.trans (Nat.min_eq_right (Nat.le_of_not_lt hin)), Bool.eq_false_iff.mpr (mt hovf.mp hin)⟩

/-- The FEED of the 32nd sample decimates the sum, clears the batch and starts the frame (R190). -/
theorem exec_feed_of_last {s : State} (hcnt : s.cnt.toNat = 31) :
    exec .feed s = .next { s.decimate s.feedSum with acc := 0, cnt := 0, phase := Phase.setup } := by
  rcases execFeed_cases s with ⟨hne, _⟩ | ⟨_, hfeed⟩
  · exact absurd hcnt hne
  · exact hfeed

/-- Settles O19: the sum fits LAST_SUM and its reading fits DEC, so DEC is the reading in the mode at hand and SCALE's
voltage and clamp are those of DEC. -/
theorem feedCompletesTheBatch : Obligations.FeedCompletesTheBatch := by
  intro s hcnt hsum
  have hfeed : s.feedSum.toNat = s.acc.toNat + s.inputs.adcData.toNat :=
    s.feedSum_toNat (Nat.lt_of_le_of_lt hsum (by decide))
  have hreading : decimated s.block.val.roundMode s.feedSum ≤ 4093 := decimated_le _ (hfeed.trans_le hsum)
  have hdec : (s.decimate s.feedSum).dec.toNat = decimated s.block.val.roundMode s.feedSum :=
    s.decimate_dec_toNat (Nat.lt_of_le_of_lt hreading (by decide))
  refine ⟨_, exec_feed_of_last hcnt, hfeed, ?bitTest, ?legacyAnd, ?voltage, s.scale_clamp _, rfl⟩
  case bitTest =>
    intro hmode
    exact hdec.trans (by rw [hmode, decimated_bitTest]; rfl)
  case legacyAnd =>
    intro hmode
    exact hdec.trans (by rw [hmode, decimated_legacyAnd]; rfl)
  case voltage => exact congrArg (· * s.block.val.fsMv / 4092) hdec.symm

end Sys2Proof.Machine
end

section
/-! PROOFS. The phase succession (spec/44_sequencer.md R233): the phase each operation leaves, once per operation; the
step takes it from the operation it selects, and the table follows row by row. -/

namespace Sys2Proof.Machine

/-- The phase that operation `i` leaves, performed on `s`. Where an operation writes no phase, PHASE stays what it was,
whether or not it is the operation's own (log 22). -/
def State.phaseAfter (s : State) (i : Instr) : PhaseCode :=
  match i with
  | .reset _ _ => Phase.sample
  | .sampleWait => s.phase
  | .feed => Phase.setup
  | .setup _ => Phase.lit3
  | .holdLit3 _ => if s.hc.toNat = 0 then Phase.gap3 else s.phase
  | .gapLoadGap3 _ => Phase.lit2
  | .holdLit2 _ => if s.hc.toNat = 0 then Phase.gap2 else s.phase
  | .gapLoadGap2 _ => Phase.lit1
  | .holdLit1 _ => if s.hc.toNat = 0 then Phase.gap1 else s.phase
  | .gapDp _ => Phase.litDp
  | .holdDp _ => if s.hc.toNat = 0 then Phase.gapDp else s.phase
  | .gapEnd _ => if min (s.ft.toNat + 1) 10000 = 10000 then Phase.sample else Phase.pad
  | .pad _ => if min (s.ft.toNat + 1) 10000 = 10000 then Phase.sample else s.phase
  | .recoverB _ => Phase.sample
  | .recoverCF _ _ => Phase.sample

/-- HOLD goes on exactly in its last tick (R158). -/
theorem State.hold_phase (s : State) (next : PhaseCode) :
    (s.hold next).phase = if s.hc.toNat = 0 then next else s.phase := by
  rcases s.hold_cases next with ⟨hz, hold⟩ | ⟨hne, _, hold⟩
  · have hlast : s.hc.toNat = 0 := congrArg BitVec.toNat hz
    rw [hold, if_pos hlast]
    rfl
  · have hpos : s.hc.toNat ≠ 0 := fun hz => hne (BitVec.eq_of_toNat_eq hz)
    rw [hold, if_neg hpos]
    rfl

/-- GAP_END's tick leaves SAMPLE at the deadline and PAD before it (R163). -/
theorem State.endOrPad_phase (s : State) :
    s.endOrPad.phase = if min (s.ft.toNat + 1) 10000 = 10000 then Phase.sample else Phase.pad := by
  rw [State.endOrPad_eq, State.goto_phase, State.tickFrame_ft_toNat]

/-- PAD goes on exactly at the deadline (R164). -/
theorem execPad_phase (s : State) :
    ∃ u, execPad s = .next u ∧
      u.phase = if min (s.ft.toNat + 1) 10000 = 10000 then Phase.sample else s.phase := by
  refine ⟨_, rfl, ?_⟩
  rw [apply_ite State.phase, State.tickFrame_ft_toNat]
  rfl

/-- Every operation answers, with the phase that `State.phaseAfter` names. -/
theorem exec_phase (i : Instr) (s : State) : ∃ u, exec i s = .next u ∧ u.phase = s.phaseAfter i := by
  cases i with
  | feed => rcases execFeed_cases s with ⟨_, hfeed⟩ | ⟨_, hfeed⟩ <;> exact ⟨_, hfeed, rfl⟩
  | holdLit3 v | holdLit2 v | holdLit1 v | holdDp v => exact ⟨_, rfl, s.clearBd.hold_phase _⟩
  | gapEnd v => exact ⟨_, rfl, s.clearBd.endOrPad_phase⟩
  | pad v => exact execPad_phase s
  | _ => exact ⟨_, rfl, rfl⟩

/-- On an active edge the step leaves the phase of the operation it selects (R80). -/
theorem step_phase {s : State} (h : s.inputs.active = true) :
    ∃ t, step s = .next t ∧ t.phase = s.phaseAfter s.operation := by
  obtain ⟨u, hexec, hphase⟩ := exec_phase s.operation s
  refine ⟨u.advance, ?_, hphase⟩
  rw [step, if_pos h, hexec]

/-- With `rst = 0` the operation is the one the selector of the phase gives for either V bit (R80, R81). -/
theorem State.operation_of_phase {s : State} {c : PhaseCode} {i : Bool → Instr} (hrst : s.inputs.rst = false)
    (hdecode : ∀ v, decode (Selector.pack false v c) = i v) (hphase : s.phase = c) :
    s.operation = i s.inputs.adcValid := by
  rw [State.operation, State.selector, hrst, hphase, hdecode]

/-- The reserved phase codes select RECOVER: the first of them has a row of its own (R84). -/
theorem decode_reserved : ∀ p : PhaseCode, 0xB ≤ p.toNat → ∀ v,
    decode (Selector.pack false v p) = if p = 0xB#4 then .recoverB v else .recoverCF v (p.extractLsb' 0 2) := by
  decide

/-- Settles O8: each row of the table is the operation its phase code selects, read off `State.phaseAfter`; in the rows
that may stay, the phase it keeps is the row's own. -/
theorem phaseSuccession : Obligations.PhaseSuccession := by
  intro s hactive
  obtain ⟨t, hstep, ht⟩ := step_phase (s := s) (Bool.or_eq_true_iff.mpr hactive)
  refine ⟨t, hstep, fun hrst => ?reset, fun hrst => ?running⟩
  case reset => rw [ht, s.operation_reset hrst]; rfl
  case running =>
    have row {c : PhaseCode} (i : Bool → Instr) (hdecode : ∀ v, decode (Selector.pack false v c) = i v)
        (hphase : s.phase = c) : t.phase = s.phaseAfter (i s.inputs.adcValid) := by
      rw [ht, State.operation_of_phase hrst hdecode hphase]
    have stay {c next : PhaseCode} {p : Prop} [Decidable p] (hphase : s.phase = c) :
        (if p then next else s.phase) = if p then next else c := by rw [hphase]
    refine ⟨fun h => ?sample, row .setup (by decide), fun h => (row .holdLit3 (by decide) h).trans (stay h),
      row .gapLoadGap3 (by decide), fun h => (row .holdLit2 (by decide) h).trans (stay h),
      row .gapLoadGap2 (by decide), fun h => (row .holdLit1 (by decide) h).trans (stay h),
      row .gapDp (by decide), fun h => (row .holdDp (by decide) h).trans (stay h),
      row .gapEnd (by decide), fun h => (row .pad (by decide) h).trans (stay h), fun h => ?recover⟩
    case sample =>
      rw [row (fun v => if v then .feed else .sampleWait) (by decide) h, apply_ite s.phaseAfter]
      exact stay h
    case recover =>
      rw [row _ (decode_reserved s.phase h) rfl]
      split <;> rfl

end Sys2Proof.Machine
end

section
/-! PROOFS. Totality (spec/60_exceptions.md R260): no operation and no clock edge ends in a fault or a refusal. -/

namespace Sys2Proof.Machine

/-- Every operation answers a next state: `exec_phase` runs each of the fifteen and names the phase it leaves. -/
theorem exec_total (i : Instr) (s : State) : ∃ t, exec i s = .next t := by
  obtain ⟨t, hexec, _⟩ := exec_phase i s
  exact ⟨t, hexec⟩

/-- An edge without `ce` and `rst` performs no operation: its input word is used up and that is all (R80). -/
theorem step_of_not_active {s : State} (h : ¬ s.inputs.active = true) : step s = .next s.advance :=
  if_neg h

/-- Every clock edge answers a next state, whatever the inputs are: it performs a total operation, or none. -/
theorem step_total (s : State) : ∃ t, step s = .next t := by
  by_cases hactive : s.inputs.active = true
  · obtain ⟨t, hstep, _⟩ := step_phase hactive
    exact ⟨t, hstep⟩
  · exact ⟨s.advance, step_of_not_active hactive⟩

/-- Settles O6: `exec_total` for the fifteen operations and `step_total` for the edge. -/
theorem everyOperationIsTotal : Obligations.EveryOperationIsTotal := fun s =>
  ⟨fun i => exec_total i s, step_total s⟩

end Sys2Proof.Machine
end

section
/-! PROOFS. RESET (spec/70_reset_and_hazards.md R290, R292): what it writes, and the block as the reset edge leaves it. -/

namespace Sys2Proof.Machine

/-- RESET as one equation (R290): all fifteen registers are written; the configuration, the pending input words and the
edge count stay (log 23). -/
theorem State.resetRegisters_eq (s : State) :
    s.resetRegisters = { s with
      acc := 0, cnt := 0, dec := 0, vmv := 0, disp := 0, ovf := false, lastSum := 0, bd := false,
      phase := 0x0#4, hc := 0, ft := 0, fv := 0, dpp := 0, seg := 0x00#8, dig := 0b000#3 } := rfl

/-- The operands of RESET are the selector bits it ignores (R81). -/
theorem exec_reset (v : Bool) (p : PhaseCode) (s : State) : exec (.reset v p) s = .next s.resetRegisters := rfl

/-- Settles O9: `exec_reset` for the operation and `step_reset` for the edge; the registers are those of
`State.resetRegisters_eq`. -/
theorem resetClearsEveryRegister : Obligations.ResetClearsEveryRegister := by
  intro s v p
  refine ⟨?operation, fun hrst => ?edge⟩
  case operation => rw [exec_reset, State.resetRegisters_eq]
  case edge => rw [step_reset s hrst, State.resetRegisters_eq, State.advance]

/-- In SAMPLE without reset, the V bit alone selects the operation (R81, R83). -/
theorem State.operation_of_sample {s : State} (hrst : s.inputs.rst = false) (hphase : s.phase = Phase.sample) :
    s.operation = if s.inputs.adcValid then .feed else .sampleWait :=
  State.operation_of_phase (i := fun v => if v then .feed else .sampleWait) hrst (by decide) hphase

/-- Settles O10: the step is RESET (`step_reset`), so the ports show the reset registers, and the next edge without reset
finds the block in SAMPLE (`State.operation_of_sample`). -/
theorem afterResetTheBlockAsksForASample : Obligations.AfterResetTheBlockAsksForASample := by
  intro s t hrst hstep
  obtain rfl : s.resetRegisters.advance = t := Host.Outcome.next.inj ((step_reset s hrst).symm.trans hstep)
  have hphase : s.resetRegisters.advance.phase = Phase.sample := rfl
  refine ⟨hphase, (State.outputs_adcReq_iff _).mpr hphase, ?segments, ?line, ?batchDone, fun hnext => ?operation⟩
  case segments =>
    rw [State.outputs_segN, State.advance_seg, State.resetRegisters_seg]
    decide
  case line => rw [State.outputs_dig, State.advance_dig, State.resetRegisters_dig]
  case batchDone => rw [State.outputs_batchDone, State.advance_bd, State.resetRegisters_bd]
  case operation =>
    rw [State.operation_of_sample hnext hphase]
    split
    · exact .inr rfl
    · exact .inl rfl

end Sys2Proof.Machine
end

section
/-! PROOFS. A tick of normal running, path by path: the one place where the sequencer's phases meet the operations they
select (spec/30_encoding.md R81, R83; spec/44_sequencer.md R233). Every statement about a step is read off from here. -/

namespace Sys2Proof.Machine

/-- The all-off phase that follows a lit one (R158, R161). -/
inductive GapAfter : PhaseCode → PhaseCode → Prop
  | lit3 : GapAfter Phase.lit3 Phase.gap3
  | lit2 : GapAfter Phase.lit2 Phase.gap2
  | lit1 : GapAfter Phase.lit1 Phase.gap1
  | litDp : GapAfter Phase.litDp Phase.gapDp

/-- The position that a gap loads and the lit phase it goes on to (R159). -/
inductive LoadAfter : PhaseCode → Position → PhaseCode → Prop
  | gap3 : LoadAfter Phase.gap3 .p2 Phase.lit2
  | gap2 : LoadAfter Phase.gap2 .p1 Phase.lit1

/-- The registers as SETUP leaves them (R152): the range of DISP chosen, position 3 loaded, the frame timer started. -/
def State.startFrame (s : State) : State :=
  { (s.clearBd.load .p3 (rangeSelect s.disp.toNat).1).goto Phase.lit3 with
    dpp := (rangeSelect s.disp.toNat).2, ft := 1 }

theorem exec_setup (v : Bool) (s : State) : exec (.setup v) s = .next s.startFrame := rfl

@[simp] theorem State.startFrame_phase (s : State) : s.startFrame.phase = Phase.lit3 := rfl
@[simp] theorem State.startFrame_dpp (s : State) : s.startFrame.dpp = (rangeSelect s.disp.toNat).2 := rfl
@[simp] theorem State.startFrame_ft (s : State) : s.startFrame.ft = 1 := rfl
@[simp] theorem State.startFrame_dig (s : State) : s.startFrame.dig = 0b100#3 := rfl
@[simp] theorem State.startFrame_block (s : State) : s.startFrame.block = s.block :=
  s.clearBd.load_block .p3 (rangeSelect s.disp.toNat).1
@[simp] theorem State.startFrame_disp (s : State) : s.startFrame.disp = s.disp :=
  s.clearBd.load_disp .p3 (rangeSelect s.disp.toNat).1
@[simp] theorem State.startFrame_bd (s : State) : s.startFrame.bd = false :=
  s.clearBd.load_bd .p3 (rangeSelect s.disp.toNat).1
@[simp] theorem State.startFrame_seg (s : State) :
    s.startFrame.seg = (patRom s.block (digitCode (rangeSelect s.disp.toNat).1)).seg := s.clearBd.load_seg .p3 _

/-- Position 3 is lit for exactly the duration of its digit (R157). -/
theorem State.startFrame_hc_toNat (s : State) :
    s.startFrame.hc.toNat + 1 = (patRom s.block (digitCode (rangeSelect s.disp.toNat).1)).dur.toNat :=
  s.clearBd.load_hc_toNat .p3 _

/-- The digits that are left after position 3, for every DISP (R157). -/
theorem State.startFrame_fv_toNat (s : State) : s.startFrame.fv.toNat = (rangeSelect s.disp.toNat).1 / 10 := by
  have hdisp := s.disp.isLt
  apply s.clearBd.load_fv_toNat .p3
  rcases rangeSelect_cases s.disp.toNat with ⟨hlow, hr⟩ | ⟨_, hr⟩ <;> rw [hr] <;> dsimp only <;> omega

/-- The registers as GAP_LOAD leaves them (R159): position `p` loaded with the last of the digits that are left. -/
def State.loadNext (s : State) (p : Position) (next : PhaseCode) : State :=
  (s.clearBd.tickFrame.load p s.fv.toNat).goto next

theorem exec_gapLoadGap3 (v : Bool) (s : State) : exec (.gapLoadGap3 v) s = .next (s.loadNext .p2 Phase.lit2) := rfl
theorem exec_gapLoadGap2 (v : Bool) (s : State) : exec (.gapLoadGap2 v) s = .next (s.loadNext .p1 Phase.lit1) := rfl

@[simp] theorem State.loadNext_phase (s : State) (p : Position) (next : PhaseCode) : (s.loadNext p next).phase = next := rfl
@[simp] theorem State.loadNext_dig (s : State) (p : Position) (next : PhaseCode) : (s.loadNext p next).dig = onehot p := rfl
@[simp] theorem State.loadNext_dpp (s : State) (p : Position) (next : PhaseCode) : (s.loadNext p next).dpp = s.dpp :=
  s.clearBd.tickFrame.load_dpp p s.fv.toNat
@[simp] theorem State.loadNext_ft (s : State) (p : Position) (next : PhaseCode) :
    (s.loadNext p next).ft = s.tickFrame.ft := s.clearBd.tickFrame.load_ft p s.fv.toNat
@[simp] theorem State.loadNext_block (s : State) (p : Position) (next : PhaseCode) : (s.loadNext p next).block = s.block :=
  s.clearBd.tickFrame.load_block p s.fv.toNat
@[simp] theorem State.loadNext_disp (s : State) (p : Position) (next : PhaseCode) : (s.loadNext p next).disp = s.disp :=
  s.clearBd.tickFrame.load_disp p s.fv.toNat
@[simp] theorem State.loadNext_bd (s : State) (p : Position) (next : PhaseCode) : (s.loadNext p next).bd = false :=
  s.clearBd.tickFrame.load_bd p s.fv.toNat
@[simp] theorem State.loadNext_seg (s : State) (p : Position) (next : PhaseCode) :
    (s.loadNext p next).seg = (patRom s.block (digitCode s.fv.toNat)).seg := s.clearBd.tickFrame.load_seg p s.fv.toNat

/-- The position is lit for exactly the duration of its digit (R157). -/
theorem State.loadNext_hc_toNat (s : State) (p : Position) (next : PhaseCode) :
    (s.loadNext p next).hc.toNat + 1 = (patRom s.block (digitCode s.fv.toNat)).dur.toNat :=
  s.clearBd.tickFrame.load_hc_toNat p s.fv.toNat

/-- The digits that are left after the one loaded (R157). -/
theorem State.loadNext_fv_toNat (s : State) (p : Position) (next : PhaseCode) :
    (s.loadNext p next).fv.toNat = s.fv.toNat / 10 :=
  s.clearBd.tickFrame.load_fv_toNat p s.fv.toNat (Nat.lt_trans s.fv.isLt (by decide))

/-- What a tick with `ce = 1` and `rst = 0` makes of the registers, one constructor per path of the operation that PHASE
selects. The edge's input word is not used up yet: that is `State.advance`. -/
inductive State.Tick (s : State) : State → Prop
  /-- SAMPLE_WAIT (R232). -/
  | wait (hphase : s.phase = Phase.sample) (hvalid : s.inputs.adcValid = false) : Tick s s.clearBd
  /-- FEED before the end of a batch (R190). -/
  | take (hphase : s.phase = Phase.sample) (hvalid : s.inputs.adcValid = true) (hcnt : s.cnt.toNat ≠ 31) :
      Tick s { s.clearBd with acc := s.feedSum, cnt := BitVec.ofNat 5 (s.cnt.toNat + 1), phase := Phase.setup }
  /-- FEED of the last sample of a batch (R190, R192). -/
  | complete (hphase : s.phase = Phase.sample) (hvalid : s.inputs.adcValid = true) (hcnt : s.cnt.toNat = 31) :
      Tick s { s.decimate s.feedSum with acc := 0, cnt := 0, phase := Phase.setup }
  /-- SETUP (R152). -/
  | setup (hphase : s.phase = Phase.setup) : Tick s s.startFrame
  /-- HOLD or HOLD_DP before the last tick of a lit phase (R158, R161). -/
  | holdOn {c next : PhaseCode} (hgap : GapAfter c next) (hphase : s.phase = c) (hrest : s.hc ≠ 0) :
      Tick s { s.clearBd.tickFrame with hc := s.hc - 1 }
  /-- HOLD or HOLD_DP in the last tick of a lit phase (R158, R161). -/
  | holdLast {c next : PhaseCode} (hgap : GapAfter c next) (hphase : s.phase = c) (hlast : s.hc = 0) :
      Tick s (s.clearBd.tickFrame.dark.goto next)
  /-- GAP_LOAD (R159). -/
  | gapLoad {c : PhaseCode} {p : Position} {next : PhaseCode} (hload : LoadAfter c p next) (hphase : s.phase = c) :
      Tick s (s.loadNext p next)
  /-- GAP_DP (R160). -/
  | gapPoint (hphase : s.phase = Phase.gap1) :
      Tick s { s.clearBd.tickFrame.goto Phase.litDp with
        dig := (dpOnehot s.dpp).1, seg := (dpOnehot s.dpp).2, hc := BitVec.ofNat 16 (s.block.val.dpUs - 1) }
  /-- GAP_END or PAD at the deadline (R163, R164). -/
  | deadline (hphase : s.phase = Phase.gapDp ∨ s.phase = Phase.pad) (hft : 9999 ≤ s.ft.toNat) :
      Tick s (s.clearBd.tickFrame.goto Phase.sample)
  /-- GAP_END or PAD before the deadline (R163, R164). -/
  | padding (hphase : s.phase = Phase.gapDp ∨ s.phase = Phase.pad) (hft : s.ft.toNat < 9999) :
      Tick s (s.clearBd.tickFrame.goto Phase.pad)
  /-- RECOVER (R84). -/
  | recover (hphase : 0xB ≤ s.phase.toNat) : Tick s (s.clearBd.dark.goto Phase.sample)

/-- The eleven phases of a run from reset, and the reserved codes (R83, R84). -/
theorem phaseCode_cases : ∀ p : PhaseCode,
    p = Phase.sample ∨ p = Phase.setup ∨ (∃ next, GapAfter p next) ∨ (∃ q next, LoadAfter p q next) ∨
    p = Phase.gap1 ∨ (p = Phase.gapDp ∨ p = Phase.pad) ∨ 0xB ≤ p.toNat := by
  have hcode : ∀ p : PhaseCode, p = Phase.sample ∨ p = Phase.setup ∨
      (p = Phase.lit3 ∨ p = Phase.lit2 ∨ p = Phase.lit1 ∨ p = Phase.litDp) ∨ (p = Phase.gap3 ∨ p = Phase.gap2) ∨
      p = Phase.gap1 ∨ (p = Phase.gapDp ∨ p = Phase.pad) ∨ 0xB ≤ p.toNat := by decide
  have hlit : ∀ p : PhaseCode, p = Phase.lit3 ∨ p = Phase.lit2 ∨ p = Phase.lit1 ∨ p = Phase.litDp →
      ∃ next, GapAfter p next := by
    rintro _ (rfl | rfl | rfl | rfl)
    exacts [⟨_, .lit3⟩, ⟨_, .lit2⟩, ⟨_, .lit1⟩, ⟨_, .litDp⟩]
  have hgap : ∀ p : PhaseCode, p = Phase.gap3 ∨ p = Phase.gap2 → ∃ q next, LoadAfter p q next := by
    rintro _ (rfl | rfl)
    exacts [⟨_, _, .gap3⟩, ⟨_, _, .gap2⟩]
  exact fun p => (hcode p).imp_right (.imp_right (.imp (hlit p) (.imp_left (hgap p))))

/-- PHASE and `adc_valid` always choose a path. -/
theorem State.exists_tick (s : State) : ∃ u, s.Tick u := by
  rcases phaseCode_cases s.phase with hphase | hphase | ⟨next, hgap⟩ | ⟨p, next, hload⟩ | hphase | hphase | hphase
  · by_cases hvalid : s.inputs.adcValid = true
    · by_cases hcnt : s.cnt.toNat = 31
      · exact ⟨_, .complete hphase hvalid hcnt⟩
      · exact ⟨_, .take hphase hvalid hcnt⟩
    · exact ⟨_, .wait hphase (Bool.eq_false_of_not_eq_true hvalid)⟩
  · exact ⟨_, .setup hphase⟩
  · by_cases hlast : s.hc = 0
    · exact ⟨_, .holdLast hgap rfl hlast⟩
    · exact ⟨_, .holdOn hgap rfl hlast⟩
  · exact ⟨_, .gapLoad hload rfl⟩
  · exact ⟨_, .gapPoint hphase⟩
  · by_cases hft : 9999 ≤ s.ft.toNat
    · exact ⟨_, .deadline hphase hft⟩
    · exact ⟨_, .padding hphase (Nat.lt_of_not_le hft)⟩
  · exact ⟨_, .recover hphase⟩

theorem Inputs.running_iff (i : Inputs) : i.running = true ↔ i.ce = true ∧ i.rst = false := by
  rw [Inputs.running, Bool.and_eq_true, Bool.not_eq_true']

/-- In a lit phase the operation is HOLD, or HOLD_DP, with the gap that follows (R158, R161). -/
theorem exec_of_gapAfter {s : State} {next : PhaseCode} (hrst : s.inputs.rst = false) (hgap : GapAfter s.phase next) :
    exec s.operation s = .next (s.clearBd.hold next) := by
  generalize hphase : s.phase = c at hgap
  cases hgap with
  | lit3 => rw [State.operation_of_phase (i := .holdLit3) hrst (by decide) hphase]; rfl
  | lit2 => rw [State.operation_of_phase (i := .holdLit2) hrst (by decide) hphase]; rfl
  | lit1 => rw [State.operation_of_phase (i := .holdLit1) hrst (by decide) hphase]; rfl
  | litDp => rw [State.operation_of_phase (i := .holdDp) hrst (by decide) hphase]; rfl

/-- At the end of a frame the tick goes to SAMPLE or to PAD, whether it is the frame's first tick of padding or not
(R163, R164). -/
theorem exec_of_frameEnd {s : State} (hrst : s.inputs.rst = false) (hphase : s.phase = Phase.gapDp ∨ s.phase = Phase.pad) :
    exec s.operation s = .next s.clearBd.endOrPad := by
  rcases hphase with hphase | hphase
  · rw [State.operation_of_phase (i := .gapEnd) hrst (by decide) hphase]; rfl
  · have hstay : s.clearBd.tickFrame.goto Phase.pad = s.clearBd.tickFrame := by rw [← hphase]; rfl
    rw [State.operation_of_phase (i := .pad) hrst (by decide) hphase]
    simp only [exec, execPad, State.endOrPad, hstay]

/-- The operation that PHASE selects makes of the registers what the path says. -/
theorem State.Tick.exec_eq {s u : State} (htick : s.Tick u) (hrst : s.inputs.rst = false) :
    Machine.exec s.operation s = .next u := by
  cases htick with
  | wait hphase hvalid => rw [State.operation_of_sample hrst hphase, hvalid]; rfl
  | take hphase hvalid hcnt =>
    rw [State.operation_of_sample hrst hphase, hvalid]
    exact (execFeed_cases s).elim And.right fun h => absurd h.1 hcnt
  | complete hphase hvalid hcnt => rw [State.operation_of_sample hrst hphase, hvalid]; exact exec_feed_of_last hcnt
  | setup hphase => rw [State.operation_of_phase (i := .setup) hrst (by decide) hphase, exec_setup]
  | holdOn hgap hphase hrest => rw [exec_of_gapAfter hrst (hphase ▸ hgap)]; exact congrArg _ (if_neg hrest)
  | holdLast hgap hphase hlast =>
    rw [exec_of_gapAfter hrst (hphase ▸ hgap)]
    exact congrArg _ (State.hold_of_hc_zero (s := s.clearBd) _ hlast)
  | gapLoad hload hphase =>
    cases hload with
    | gap3 => rw [State.operation_of_phase (i := .gapLoadGap3) hrst (by decide) hphase, exec_gapLoadGap3]
    | gap2 => rw [State.operation_of_phase (i := .gapLoadGap2) hrst (by decide) hphase, exec_gapLoadGap2]
  | gapPoint hphase => rw [State.operation_of_phase (i := .gapDp) hrst (by decide) hphase]; rfl
  | deadline hphase hft =>
    rw [exec_of_frameEnd hrst hphase]
    exact (s.clearBd.endOrPad_cases).elim (congrArg _ ·.2) fun h => absurd hft (Nat.not_le_of_lt h.1)
  | padding hphase hft =>
    rw [exec_of_frameEnd hrst hphase]
    exact (s.clearBd.endOrPad_cases).elim (fun h => absurd hft (Nat.not_lt_of_le h.1)) (congrArg _ ·.2)
  | recover hphase =>
    rw [State.operation_of_phase hrst (decode_reserved s.phase hphase) rfl]
    split <;> rfl

/-- On a tick of normal running the step takes its path and uses up the edge's input word. -/
theorem State.Tick.step_eq {s u : State} (htick : s.Tick u) (hrun : s.inputs.running = true) :
    Machine.step s = .next u.advance :=
  step_operation hrun (htick.exec_eq ((Inputs.running_iff _).mp hrun).2)

/-- A tick of normal running answers, by some path. -/
theorem step_of_running {s : State} (hrun : s.inputs.running = true) : ∃ u, s.Tick u ∧ step s = .next u.advance := by
  obtain ⟨u, htick⟩ := s.exists_tick
  exact ⟨u, htick, htick.step_eq hrun⟩

/-- Everything a step can do: pass the edge by, reset, or take the path of the tick (R80, R81). -/
theorem step_paths {s t : State} (h : step s = .next t) :
    (s.inputs.active = false ∧ t = s.advance) ∨ (s.inputs.rst = true ∧ t = s.resetRegisters.advance) ∨
    (s.inputs.running = true ∧ ∃ u, s.Tick u ∧ t = u.advance) := by
  by_cases hactive : s.inputs.active = true
  · by_cases hrst : s.inputs.rst = true
    · exact .inr (.inl ⟨hrst, Host.Outcome.next.inj (h.symm.trans (step_reset s hrst))⟩)
    · have hrun : s.inputs.running = true := by
        simpa [Inputs.active, Inputs.running, hrst] using hactive
      obtain ⟨u, htick, hstep⟩ := step_of_running hrun
      exact .inr (.inr ⟨hrun, u, htick, Host.Outcome.next.inj (h.symm.trans hstep)⟩)
  · exact .inl ⟨Bool.eq_false_of_not_eq_true hactive, Host.Outcome.next.inj (h.symm.trans (step_of_not_active hactive))⟩

/-- What every step keeps: a property that the environment does not enter holds after a step when RESET gives it and every
path of a tick keeps it. -/
theorem step_keeps {P : State → Prop} (hadvance : ∀ s, P s → P s.advance) (hreset : ∀ s : State, P s.resetRegisters)
    {s t : State} (htick : ∀ u, s.Tick u → P u) (hs : P s) (h : step s = .next t) : P t := by
  rcases step_paths h with ⟨_, rfl⟩ | ⟨_, rfl⟩ | ⟨_, u, hu, rfl⟩
  · exact hadvance s hs
  · exact hadvance _ (hreset s)
  · exact hadvance u (htick u hu)

end Sys2Proof.Machine
end

section
/-! PROOFS. The batch and the readings (spec/43_filter.md R190 to R201): which operations leave them alone, what a FEED adds
to the batch, and that the readings after the last FEED of a batch are those of its sum. -/

namespace Sys2Proof.Machine

/- ==== Who writes the filter's registers (R24 to R30) ==== -/

/-- From `s` to `t` the readings, and the configuration they are scaled with, stay. -/
structure State.KeepsReadings (s t : State) : Prop where
  block : t.block = s.block
  dec : t.dec = s.dec
  vmv : t.vmv = s.vmv
  disp : t.disp = s.disp
  ovf : t.ovf = s.ovf
  lastSum : t.lastSum = s.lastSum

/-- From `s` to `t` the readings and the batch stay. -/
structure State.KeepsFilter (s t : State) : Prop extends State.KeepsReadings s t where
  acc : t.acc = s.acc
  cnt : t.cnt = s.cnt

theorem State.KeepsReadings.trans {s t u : State} (h : s.KeepsReadings t) (h' : t.KeepsReadings u) :
    s.KeepsReadings u :=
  ⟨h'.block.trans h.block, h'.dec.trans h.dec, h'.vmv.trans h.vmv, h'.disp.trans h.disp, h'.ovf.trans h.ovf,
    h'.lastSum.trans h.lastSum⟩

theorem State.KeepsFilter.trans {s t u : State} (h : s.KeepsFilter t) (h' : t.KeepsFilter u) : s.KeepsFilter u :=
  ⟨h.toKeepsReadings.trans h'.toKeepsReadings, h'.acc.trans h.acc, h'.cnt.trans h.cnt⟩

theorem State.keepsFilter_refl (s : State) : s.KeepsFilter s := ⟨⟨rfl, rfl, rfl, rfl, rfl, rfl⟩, rfl, rfl⟩

theorem State.keepsFilter_advance (s : State) : s.KeepsFilter s.advance := ⟨⟨rfl, rfl, rfl, rfl, rfl, rfl⟩, rfl, rfl⟩
theorem State.keepsFilter_clearBd (s : State) : s.KeepsFilter s.clearBd := ⟨⟨rfl, rfl, rfl, rfl, rfl, rfl⟩, rfl, rfl⟩
theorem State.keepsFilter_tickFrame (s : State) : s.KeepsFilter s.tickFrame :=
  ⟨⟨rfl, rfl, rfl, rfl, rfl, rfl⟩, rfl, rfl⟩
theorem State.keepsFilter_load (s : State) (p : Position) (x : Nat) : s.KeepsFilter (s.load p x) :=
  ⟨⟨s.load_block p x, s.load_dec p x, s.load_vmv p x, s.load_disp p x, s.load_ovf p x, s.load_lastSum p x⟩,
    s.load_acc p x, s.load_cnt p x⟩

/-- GAP_LOAD is of the display alone (R159). -/
theorem State.keepsFilter_loadNext (s : State) (p : Position) (next : PhaseCode) :
    s.KeepsFilter (s.loadNext p next) ∧ (s.loadNext p next).bd = false := by
  obtain ⟨⟨_, hdec, hvmv, _, hovf, hsum⟩, hacc, hcnt⟩ := s.keepsFilter_clearBd.trans
    (s.clearBd.keepsFilter_tickFrame.trans (s.clearBd.tickFrame.keepsFilter_load p s.fv.toNat))
  exact ⟨⟨⟨s.loadNext_block p next, hdec, hvmv, s.loadNext_disp p next, hovf, hsum⟩, hacc, hcnt⟩, s.loadNext_bd p next⟩

/-- SETUP is of the display alone (R152). -/
theorem State.keepsFilter_startFrame (s : State) : s.KeepsFilter s.startFrame ∧ s.startFrame.bd = false := by
  obtain ⟨⟨_, hdec, hvmv, _, hovf, hsum⟩, hacc, hcnt⟩ :=
    s.keepsFilter_clearBd.trans (s.clearBd.keepsFilter_load .p3 (rangeSelect s.disp.toNat).1)
  exact ⟨⟨⟨s.startFrame_block, hdec, hvmv, s.startFrame_disp, hovf, hsum⟩, hacc, hcnt⟩, s.startFrame_bd⟩

/-- HOLD is of the display alone. -/
theorem State.clearBd_hold_keepsFilter (s : State) (next : PhaseCode) :
    s.KeepsFilter (s.clearBd.hold next) ∧ (s.clearBd.hold next).bd = false := by
  rcases s.clearBd.hold_cases next with ⟨_, hold⟩ | ⟨_, _, hold⟩ <;> rw [hold] <;>
    exact ⟨⟨⟨rfl, rfl, rfl, rfl, rfl, rfl⟩, rfl, rfl⟩, rfl⟩

/-- PAD as one equation (R164): the phase after it is decided by FT as this tick leaves it. -/
theorem execPad_eq (s : State) :
    execPad s = .next (s.clearBd.tickFrame.goto
      (if s.clearBd.tickFrame.ft.toNat = 10000 then Phase.sample else s.phase)) :=
  congrArg Host.Outcome.next (apply_ite (fun p => s.clearBd.tickFrame.goto p)
    (s.clearBd.tickFrame.ft.toNat = 10000) Phase.sample s.phase).symm

/-- Settles O42: the tick is counted first (`State.tickFrame_ft_toNat`), and `execPad_eq` gives the phase. -/
theorem padWaitsForTheDeadline : Obligations.PadWaitsForTheDeadline := fun s _ =>
  ⟨_, execPad_eq s, s.clearBd.tickFrame_ft_toNat, rfl⟩

/-- Every operation but FEED and RESET keeps the filter and ends with `BD` = 0 (R82). -/
theorem exec_keepsFilter {i : Instr} {s t : State} (hfeed : i ≠ .feed) (hreset : ∀ v p, i ≠ .reset v p)
    (h : exec i s = .next t) : s.KeepsFilter t ∧ t.bd = false := by
  cases i with
  | feed => exact absurd rfl hfeed
  | reset v p => exact absurd rfl (hreset v p)
  | holdLit3 v | holdLit2 v | holdLit1 v | holdDp v => cases h; exact s.clearBd_hold_keepsFilter _
  | gapEnd v =>
    cases h
    rw [State.endOrPad_eq]
    exact ⟨⟨⟨rfl, rfl, rfl, rfl, rfl, rfl⟩, rfl, rfl⟩, rfl⟩
  | pad v =>
    cases (execPad_eq s).symm.trans h
    exact ⟨⟨⟨rfl, rfl, rfl, rfl, rfl, rfl⟩, rfl, rfl⟩, rfl⟩
  | setup v => cases (exec_setup v s).symm.trans h; exact s.keepsFilter_startFrame
  | gapLoadGap3 v => cases (exec_gapLoadGap3 v s).symm.trans h; exact s.keepsFilter_loadNext _ _
  | gapLoadGap2 v => cases (exec_gapLoadGap2 v s).symm.trans h; exact s.keepsFilter_loadNext _ _
  | _ => cases h; exact ⟨⟨⟨rfl, rfl, rfl, rfl, rfl, rfl⟩, rfl, rfl⟩, rfl⟩

/-- Settles O25, by `exec_keepsFilter`. -/
theorem onlyFeedAndResetWriteTheFilter : Obligations.OnlyFeedAndResetWriteTheFilter := by
  intro s t i hfeed hreset hexec
  obtain ⟨⟨⟨_, hdec, hvmv, hdisp, hovf, hsum⟩, hacc, hcnt⟩, hbd⟩ := exec_keepsFilter hfeed hreset hexec
  exact ⟨hacc, hcnt, hdec, hvmv, hdisp, hovf, hsum, hbd⟩

/-- A tick that takes no sample keeps the filter. -/
theorem State.Tick.keepsFilter {s u : State} (htick : s.Tick u) (hphase : s.phase ≠ Phase.sample) :
    s.KeepsFilter u ∧ u.bd = false := by
  cases htick with
  | wait h | take h | complete h => exact absurd h hphase
  | setup _ => exact s.keepsFilter_startFrame
  | gapLoad _ _ => exact s.keepsFilter_loadNext _ _
  | _ => exact ⟨⟨⟨rfl, rfl, rfl, rfl, rfl, rfl⟩, rfl, rfl⟩, rfl⟩

/-- SAMPLE_WAIT's whole effect, as its arm of the dispatch gives it (R232). -/
theorem exec_sampleWait (s : State) : exec .sampleWait s = .next s.clearBd := rfl

/-- Settles O26: FEED by its two cases, SAMPLE_WAIT by its one write. -/
theorem samplingKeepsTheFrameRegisters : Obligations.SamplingKeepsTheFrameRegisters := by
  rintro s t i (rfl | rfl) hexec
  · rcases execFeed_cases s with ⟨_, hfeed⟩ | ⟨_, hfeed⟩ <;> cases hfeed.symm.trans hexec <;>
      exact ⟨rfl, rfl, rfl, rfl, rfl, rfl⟩
  · cases hexec
    exact ⟨rfl, rfl, rfl, rfl, rfl, rfl⟩

/- ==== FEED (R190) ==== -/

/-- The FEED of any but the last sample of a batch. -/
theorem exec_feed_of_not_last {s : State} (hcnt : s.cnt.toNat ≠ 31) :
    exec .feed s = .next { s.clearBd with
      acc := s.feedSum, cnt := BitVec.ofNat 5 (s.cnt.toNat + 1), phase := Phase.setup } := by
  rcases execFeed_cases s with ⟨_, hfeed⟩ | ⟨hlast, _⟩
  · exact hfeed
  · exact absurd hlast hcnt

/-- The count of a batch that is not yet at its last sample does not wrap. -/
theorem count_succ_toNat {c : BitVec 5} (hc : c.toNat ≠ 31) : (BitVec.ofNat 5 (c.toNat + 1)).toNat = c.toNat + 1 := by
  have hlt := c.isLt
  rw [BitVec.toNat_ofNat]
  omega

/-- Settles O18: the sum fits (`State.feedSum_toNat`) and the count does not wrap. -/
theorem feedTakesTheSampleIntoTheBatch : Obligations.FeedTakesTheSampleIntoTheBatch := fun s hcnt hsum =>
  ⟨_, exec_feed_of_not_last hcnt, s.feedSum_toNat hsum, count_succ_toNat hcnt, rfl⟩

/-- Settles O20 with the model's own sum `State.feedSum`, which is the sum wherever that fits 15 bits. -/
theorem feedCompletesWhateverTheSum : Obligations.FeedCompletesWhateverTheSum := by
  intro s
  by_cases hcnt : s.cnt.toNat = 31
  · exact ⟨_, s.feedSum, exec_feed_of_last hcnt, s.feedSum_toNat, fun hne => absurd hcnt hne, fun _ =>
      ⟨s.decimate_dec_toNat, rfl, s.scale_disp_toNat _, overflows_iff _, rfl⟩⟩
  · have hcount : BitVec.ofNat 5 (s.cnt.toNat + 1) = s.cnt + 1 :=
      BitVec.eq_of_toNat_eq (by rw [BitVec.toNat_ofNat, BitVec.toNat_add]; rfl)
    refine ⟨_, s.feedSum, exec_feed_of_not_last hcnt, s.feedSum_toNat, fun _ => ?_, fun hlast => absurd hlast hcnt⟩
    rw [hcount]
    rfl

/- ==== The reading of a sum (R192 to R194) ==== -/

/-- Bit 2 of a sum is what remains of its fourths after the division by 8. -/
theorem roundBit_eq_mod (a : BitVec 15) : (if a.getLsbD 2 then 1 else 0) = a.toNat / 4 % 2 := by
  simp only [BitVec.getLsbD, Nat.testBit_eq_decide_div_mod_eq, decide_eq_true_eq]
  split <;> omega

/-- Settles O21: half of 8 is 4, so the bit below the cut rounds half up. -/
theorem decimationRoundsHalfUp : Obligations.DecimationRoundsHalfUp := by
  intro a
  have hbit : decimated .bitTest a = (a.toNat + 4) / 8 := by
    rw [decimated_bitTest, roundBit_eq_mod]
    omega
  refine ⟨hbit, decimated_legacyAnd a, fun ha => ⟨?_, decimated_le _ ha⟩⟩
  rw [hbit]
  omega

/-- DECIMATE leaves the readings of its sum, for every sum that R42 admits (R192, R193, R196, R197). -/
theorem State.decimate_readingsFollow (s : State) {a : BitVec 15} (ha : a.toNat ≤ 32736) :
    (s.decimate a).ReadingsFollow := by
  have hdec : (s.decimate a).dec.toNat = decimated s.block.val.roundMode a :=
    s.decimate_dec_toNat (Nat.lt_of_le_of_lt (decimated_le _ ha) (by decide))
  refine ⟨ha, hdec.trans ?reading, congrArg (· * s.block.val.fsMv / 4092) hdec.symm, s.scale_disp_toNat _,
    overflows_iff _⟩
  case reading =>
    rw [State.decimate_block, State.decimate_lastSum]
    cases s.block.val.roundMode with
    | bitTest => rw [decimated_bitTest, roundBit_eq_mod]; rfl
    | legacyAnd => rw [decimated_legacyAnd, ite_not]; rfl

theorem State.ReadingsFollow.congr {s t : State} (h : s.ReadingsFollow) (hkeep : s.KeepsReadings t) :
    t.ReadingsFollow := by
  obtain ⟨hblock, hdec, hvmv, hdisp, hovf, hsum⟩ := hkeep
  refine ⟨?_, ?_, ?_, ?_, ?_⟩
  · rw [hsum]; exact h.sumRange
  · rw [hdec, hsum, hblock]; exact h.reading
  · rw [hvmv, hdec, hblock]; exact h.voltage
  · rw [hdisp, hvmv]; exact h.display
  · rw [hovf, hvmv]; exact h.overflow

/-- The reading is at most 4092 under `BIT_TEST` and at most 4093 otherwise (R194). -/
theorem State.ReadingsFollow.dec_le {s : State} (h : s.ReadingsFollow) :
    s.dec.toNat ≤ 4093 ∧ (s.block.val.roundMode = .bitTest → s.dec.toNat ≤ 4092) := by
  have hsum := h.sumRange
  have hreading := h.reading
  cases hmode : s.block.val.roundMode <;> rw [hmode] at hreading <;> dsimp only at hreading
  · exact ⟨by omega, fun _ => by omega⟩
  · refine ⟨?_, fun hne => nomatch hne⟩
    split at hreading <;> omega

/-- The reading under `BIT_TEST`. -/
theorem State.ReadingsFollow.dec_bitTest {s : State} (h : s.ReadingsFollow) (hmode : s.block.val.roundMode = .bitTest) :
    s.dec.toNat = s.lastSum.toNat / 8 + s.lastSum.toNat / 4 % 2 := by
  rw [h.reading, hmode]

/-- The reading under `LEGACY_AND`. -/
theorem State.ReadingsFollow.dec_legacyAnd {s : State} (h : s.ReadingsFollow)
    (hmode : s.block.val.roundMode = .legacyAnd) :
    s.dec.toNat = s.lastSum.toNat / 8 + if s.lastSum.toNat = 0 then 0 else 1 := by
  rw [h.reading, hmode]

/-- The clamp engages exactly from a product of 409200000 on (R197). -/
theorem State.ReadingsFollow.ovf_iff {s : State} (h : s.ReadingsFollow) :
    s.ovf = true ↔ 409200000 ≤ s.dec.toNat * s.block.val.fsMv := by
  rw [h.overflow, h.voltage]
  omega

/-- Settles O49: the width is the bit length of the largest voltage, that of the largest reading (R27, R194). -/
theorem voltageFitsItsWidth : Obligations.VoltageFitsItsWidth := by
  intro s h
  have hmax : s.vmv ≤ 4093 * s.block.val.fsMv / 4092 := by
    rw [h.voltage]
    exact Nat.div_le_div_right (Nat.mul_le_mul_right _ h.dec_le.1)
  exact Nat.lt_of_le_of_lt hmax Nat.lt_log2_self

/-- What the FEED of the last sample leaves, for every sum that R42 admits. -/
theorem exec_feed_readings {s : State} (hcnt : s.cnt.toNat = 31)
    (hsum : s.acc.toNat + s.inputs.adcData.toNat ≤ 32736) :
    ∃ t, exec .feed s = .next t ∧ t.ReadingsFollow ∧ t.lastSum.toNat = s.acc.toNat + s.inputs.adcData.toNat ∧
      t.block = s.block ∧ t.acc = 0 ∧ t.cnt = 0 ∧ t.bd = true ∧ t.stim = s.stim := by
  have hfeed : s.feedSum.toNat = s.acc.toNat + s.inputs.adcData.toNat :=
    s.feedSum_toNat (Nat.lt_of_le_of_lt hsum (by decide))
  have hreadings := s.decimate_readingsFollow (hfeed.trans_le hsum)
  exact ⟨_, exec_feed_of_last hcnt, hreadings.congr ⟨rfl, rfl, rfl, rfl, rfl, rfl⟩, hfeed, rfl, rfl, rfl, rfl, rfl⟩

/-- Settles O24 from the readings of the completed batch: a reading of at most 4092 or 4093 stays below the threshold for the
smaller full scales, and the largest sum reads exactly that much. -/
theorem clampEngagesAtFullScale : Obligations.ClampEngagesAtFullScale := by
  intro s hcnt hsum
  obtain ⟨t, hexec, h, hlast, hblock, _⟩ := exec_feed_readings hcnt hsum
  rw [← hblock]
  have below {bound : Nat} (hdec : t.dec.toNat ≤ bound) (hscale : bound * t.block.val.fsMv < 409200000) :
      t.ovf = false :=
    Bool.eq_false_iff.mpr fun hovf =>
      absurd (h.ovf_iff.mp hovf) (Nat.not_le_of_lt (Nat.lt_of_le_of_lt (Nat.mul_le_mul_right _ hdec) hscale))
  refine ⟨t, hexec, ?display, h.ovf_iff, fun hmode hfs => below (h.dec_le.2 hmode) (by omega),
    fun _ hfs => below h.dec_le.1 (by omega), fun hmax => ⟨fun hmode hfs => ?bitTest, fun hmode hfs => ?legacyAnd⟩⟩
  case display => rw [h.display, h.voltage, Nat.div_div_eq_div_mul]
  case bitTest =>
    have hdec := h.dec_bitTest hmode
    rw [hlast, hmax] at hdec
    rw [h.ovf_iff, hdec]
    omega
  case legacyAnd =>
    have hdec := h.dec_legacyAnd hmode
    rw [hlast, hmax, if_neg (by decide)] at hdec
    rw [h.ovf_iff, hdec]
    omega

/- ==== Batches (R191, R195) ==== -/

/-- The state with a sample offered on the coming edge, as `feedAll` offers it. -/
def State.offering (s : State) (v : Sample) : State :=
  { s with stim := { ce := true, rst := false, adcValid := true, adcData := v } :: s.stim }

theorem feedAll_cons {v : Sample} {s t : State} (vs : List Sample) (h : exec .feed (s.offering v) = .next t) :
    feedAll (v :: vs) s = feedAll vs { t with stim := s.stim } := by
  rw [State.offering] at h
  simp only [feedAll, h]

theorem feedAll_append (ws : List Sample) : ∀ (vs : List Sample) {s t : State}, feedAll vs s = .next t →
    feedAll (vs ++ ws) s = feedAll ws t
  | [], s, t, h => by cases h; rfl
  | v :: vs, s, t, h => by
    obtain ⟨u, hexec⟩ := exec_total .feed (s.offering v)
    rw [feedAll_cons vs hexec] at h
    rw [List.cons_append, feedAll_cons _ hexec]
    exact feedAll_append ws vs h

/-- Samples that do not fill a batch are added to it and counted, and change no reading (R191, R199). -/
theorem feedAll_partial : ∀ (vs : List Sample) (s : State),
    s.acc.toNat ≤ 1023 * s.cnt.toNat → s.cnt.toNat + vs.length ≤ 31 →
    ∃ t, feedAll vs s = .next t ∧ t.acc.toNat = s.acc.toNat + (vs.map (·.toNat)).sum ∧
      t.cnt.toNat = s.cnt.toNat + vs.length ∧ t.acc.toNat ≤ 1023 * t.cnt.toNat ∧
      t.bd = (vs.isEmpty && s.bd) ∧ s.KeepsReadings t
  | [], s, hacc, _ => ⟨s, rfl, rfl, rfl, hacc, rfl, s.keepsFilter_refl.toKeepsReadings⟩
  | v :: vs, s, hacc, hlen => by
    rw [List.length_cons] at hlen
    have hcnt : s.cnt.toNat ≠ 31 := by omega
    have hv : v.toNat ≤ 1023 := Nat.le_of_lt_succ v.isLt
    have hsum : (s.offering v).feedSum.toNat = s.acc.toNat + v.toNat :=
      State.feedSum_toNat (s.offering v) (by show s.acc.toNat + v.toNat < 2 ^ 15; omega)
    have hcount := count_succ_toNat hcnt
    obtain ⟨t, hfeed, htacc, htcnt, hbound, hbd, hkeep⟩ := feedAll_partial vs
      { (s.offering v).clearBd with
        acc := (s.offering v).feedSum, cnt := BitVec.ofNat 5 (s.cnt.toNat + 1), phase := Phase.setup, stim := s.stim }
      (by show (s.offering v).feedSum.toNat ≤ 1023 * (BitVec.ofNat 5 (s.cnt.toNat + 1)).toNat; omega)
      (by show (BitVec.ofNat 5 (s.cnt.toNat + 1)).toNat + vs.length ≤ 31; omega)
    refine ⟨t, (feedAll_cons vs (exec_feed_of_not_last hcnt)).trans hfeed, ?_, ?_, hbound, ?_,
      ⟨hkeep.block, hkeep.dec, hkeep.vmv, hkeep.disp, hkeep.ovf, hkeep.lastSum⟩⟩
    · rw [htacc, hsum, List.map_cons, List.sum_cons, Nat.add_assoc]
    · rw [htcnt, hcount, List.length_cons]
      omega
    · rw [hbd]
      exact Bool.and_false _

/-- 32 samples from an empty batch: the readings are those of their sum, and the batch is empty again (R191). -/
theorem feedAll_batch {vs : List Sample} {s : State} (hacc : s.acc = 0) (hcnt : s.cnt = 0) (hlen : vs.length = 32) :
    ∃ t, feedAll vs s = .next t ∧ t.ReadingsFollow ∧ t.lastSum.toNat = (vs.map (·.toNat)).sum ∧
      t.block = s.block ∧ t.bd = true ∧ t.acc = 0 ∧ t.cnt = 0 := by
  obtain ⟨init, v, rfl⟩ : ∃ init v, vs = init ++ [v] :=
    ⟨_, _, (List.dropLast_append_getLast (List.ne_nil_of_length_eq_add_one hlen)).symm⟩
  have hinit : init.length = 31 := by simpa using hlen
  obtain ⟨t, hfeed, htacc, htcnt, hbound, _, hkeep⟩ :=
    feedAll_partial init s (by rw [hacc]; exact Nat.zero_le _) (by rw [hcnt, hinit]; rfl)
  have hv : v.toNat ≤ 1023 := Nat.le_of_lt_succ v.isLt
  have hlast : t.cnt.toNat = 31 := by rw [htcnt, hcnt, hinit]; rfl
  obtain ⟨u, hexec, hreadings, hsum, hblock, huacc, hucnt, hbd, _⟩ :=
    exec_feed_readings (s := t.offering v) hlast (by show t.acc.toNat + v.toNat ≤ 32736; omega)
  refine ⟨{ u with stim := t.stim }, ?_, hreadings.congr ⟨rfl, rfl, rfl, rfl, rfl, rfl⟩, ?_,
    hblock.trans hkeep.block, hbd, huacc, hucnt⟩
  · rw [feedAll_append [v] init hfeed, feedAll_cons [] hexec, feedAll]
  · have hacc' : t.acc.toNat = (init.map (·.toNat)).sum := by rw [htacc, hacc]; exact Nat.zero_add _
    rw [List.map_append, List.sum_append, ← hacc']
    exact hsum

/-- Settles O22: `feedAll_batch` for a full batch, `feedAll_partial` for a shorter one. -/
theorem batchIsTheSumOf32Samples : Obligations.BatchIsTheSumOf32Samples := by
  intro vs s hacc hcnt hpos hle
  rcases Nat.lt_or_eq_of_le hle with hlt | hfull
  · obtain ⟨t, hfeed, htacc, htcnt, _, hbd, _, hdec, hvmv, hdisp, hovf, hsum⟩ :=
      feedAll_partial vs s (by rw [hacc]; exact Nat.zero_le _) (by rw [hcnt]; show 0 + vs.length ≤ 31; omega)
    refine ⟨t, hfeed, fun h => absurd h hlt.ne, fun _ => ⟨?_, ?_, ?_, hdec, hvmv, hdisp, hovf, hsum⟩⟩
    · rw [htacc, hacc]; exact Nat.zero_add _
    · rw [htcnt, hcnt]; exact Nat.zero_add _
    · rw [hbd, List.isEmpty_eq_false_iff.mpr (List.ne_nil_of_length_pos hpos), Bool.false_and]
  · obtain ⟨t, hfeed, _, hsum, _, hbd, htacc, htcnt⟩ := feedAll_batch hacc hcnt hfull
    exact ⟨t, hfeed, fun _ => ⟨hsum, hbd, htacc, htcnt⟩, fun h => absurd hfull h.ne⟩

/-- Settles O23: the sum of the batch is 32 v, a multiple of 8, so `BIT_TEST` has nothing to round. -/
theorem identicalSamplesReadFourTimesTheValue : Obligations.IdenticalSamplesReadFourTimesTheValue := by
  intro v s hacc hcnt
  obtain ⟨t, hfeed, h, hsum, hblock, _⟩ := feedAll_batch (vs := List.replicate 32 v) hacc hcnt List.length_replicate
  have hlast : t.lastSum.toNat = 32 * v.toNat := by
    rw [hsum, List.map_replicate, List.sum_replicate, smul_eq_mul]
  refine ⟨t, hfeed, hlast, fun hmode => ?_, fun hmode => ?_⟩
  · rw [h.dec_bitTest (hblock ▸ hmode), hlast]
    omega
  · rw [h.dec_legacyAnd (hblock ▸ hmode), hlast]
    split_ifs <;> omega

end Sys2Proof.Machine
end

section
/-! PROOFS. The display along a step (spec/10_state.md R42 items 2 to 4 and 6; spec/42_multiplexer.md R154 to R161): lit
phases show one line, all other phases are dark, and what is lit are the digits of DISP and its decimal point. -/

namespace Sys2Proof.Machine

/- ==== The segments of the table ==== -/

/-- Settles O30: no glyph row has bit 7, and every other entry is Blank. -/
theorem noRomEntryLightsThePoint : Obligations.NoRomEntryLightsThePoint := by
  intro b c
  have hglyph : ∀ d : Fin 10, (glyph d).getLsbD 7 = false := by decide
  by_cases hc : c.toNat < 10
  · rw [patRom, dif_pos hc]
    exact hglyph _
  · rw [patRom_not_digit b c (Nat.le_of_not_lt hc), RomEntry.blank_seg]
    rfl

/- ==== The display invariant ==== -/

/-- The items of R42 that speak of the display: phase, lines, segments and decimal places. They hold or fail without regard
to the filter and the timers. -/
structure State.DisplayInv (s : State) : Prop where
  phaseRange : s.phase.toNat ≤ 0xA
  oneLine : s.dig = 0b000 ∨ s.dig = 0b001 ∨ s.dig = 0b010 ∨ s.dig = 0b100
  lineIffLit : s.dig ≠ 0b000 ↔ s.lit
  darkSeg : s.dig = 0b000 → s.seg = 0x00
  noPoint : s.litDigit → s.seg.getLsbD 7 = false
  pointOnly : s.phase = Phase.litDp → s.seg = 0x80
  places : 0x2 ≤ s.phase.toNat → s.phase.toNat ≤ 0xA → s.dpp = 1 ∨ s.dpp = 2

theorem State.Inv.display {s : State} (h : s.Inv) : s.DisplayInv :=
  ⟨h.phaseRange, h.oneLine, h.lineIffLit, h.darkSeg, h.noPoint, h.pointOnly, h.places⟩

theorem State.DisplayInv.congr {s t : State} (h : s.DisplayInv) (hphase : t.phase = s.phase) (hdig : t.dig = s.dig)
    (hseg : t.seg = s.seg) (hdpp : t.dpp = s.dpp) : t.DisplayInv where
  phaseRange := by rw [hphase]; exact h.phaseRange
  oneLine := by rw [hdig]; exact h.oneLine
  lineIffLit := by rw [hdig, State.lit, State.litDigit, hphase]; exact h.lineIffLit
  darkSeg := by rw [hdig, hseg]; exact h.darkSeg
  noPoint := by rw [State.litDigit, hphase, hseg]; exact h.noPoint
  pointOnly := by rw [hphase, hseg]; exact h.pointOnly
  places := by rw [hphase, hdpp]; exact h.places

/-- The phases of a run in which the display is off. -/
def darkPhases : List PhaseCode :=
  [Phase.sample, Phase.setup, Phase.gap3, Phase.gap2, Phase.gap1, Phase.gapDp, Phase.pad]

theorem displayInv_of_dark {s : State} {c : PhaseCode} (hphase : s.phase = c) (hc : c ∈ darkPhases) (hdig : s.dig = 0)
    (hseg : s.seg = 0) (hplaces : 0x2 ≤ c.toNat → s.dpp = 1 ∨ s.dpp = 2) : s.DisplayInv := by
  subst hphase
  have hrange : ∀ p ∈ darkPhases, p.toNat ≤ 0xA ∧ p ∉ [Phase.lit3, Phase.lit2, Phase.lit1, Phase.litDp] := by decide
  obtain ⟨hle, hnot⟩ := hrange _ hc
  have hlit : ¬ s.lit := State.not_lit_of_phase rfl hnot
  exact ⟨hle, .inl hdig, ⟨fun h => absurd hdig h, fun h => absurd h hlit⟩, fun _ => hseg,
    fun h => absurd (.inl h) hlit, fun h => absurd (.inr h) hlit, fun h _ => hplaces h⟩

theorem displayInv_of_litDigit {s : State} {p : Position} (hphase : s.litDigit) (hdig : s.dig = onehot p)
    (hseg : s.seg.getLsbD 7 = false) (hplaces : s.dpp = 1 ∨ s.dpp = 2) : s.DisplayInv := by
  have hrange : ∀ c, c = Phase.lit3 ∨ c = Phase.lit2 ∨ c = Phase.lit1 → c.toNat ≤ 0xA ∧ c ≠ Phase.litDp := by decide
  obtain ⟨hle, hpoint⟩ := hrange _ hphase
  have hline : onehot p = 0b001 ∨ onehot p = 0b010 ∨ onehot p = 0b100 := by cases p <;> decide
  have hne : s.dig ≠ 0b000 := by rw [hdig]; cases p <;> decide
  exact ⟨hle, .inr (hdig ▸ hline), ⟨fun _ => .inl hphase, fun _ => hne⟩, fun h => absurd h hne, fun _ => hseg,
    fun h => absurd h hpoint, fun _ _ => hplaces⟩

theorem displayInv_of_point {s : State} (hphase : s.phase = Phase.litDp) (hdig : s.dig = (dpOnehot s.dpp).1)
    (hseg : s.seg = (dpOnehot s.dpp).2) (hplaces : s.dpp = 1 ∨ s.dpp = 2) : s.DisplayInv := by
  have hpoint : (s.dig = 0b001 ∨ s.dig = 0b010) ∧ s.seg = 0x80 := by
    rw [hdig, hseg]
    rcases hplaces with h | h <;> rw [h] <;> decide
  obtain ⟨hline, hseg'⟩ := hpoint
  have hne : s.dig ≠ 0b000 := by rcases hline with h | h <;> rw [h] <;> decide
  have hdigit : ¬ s.litDigit := by rw [State.litDigit, hphase]; decide
  exact ⟨by rw [hphase]; decide, .inr (hline.imp_right .inl), ⟨fun _ => .inr hphase, fun _ => hne⟩,
    fun h => absurd h hne, fun h => absurd h hdigit, fun _ => hseg', fun _ _ => hplaces⟩

/-- Outside the lit phases both display registers are 0. -/
theorem State.DisplayInv.dark {s : State} (h : s.DisplayInv) (hlit : ¬ s.lit) : s.dig = 0 ∧ s.seg = 0 := by
  have hdig : s.dig = 0 := not_not.mp fun hne => hlit (h.lineIffLit.mp hne)
  exact ⟨hdig, h.darkSeg hdig⟩

theorem State.DisplayInv.dark_of_phase {s : State} (h : s.DisplayInv) (hphase : s.phase ∈ darkPhases) :
    s.dig = 0 ∧ s.seg = 0 := by
  have hnot : ∀ p ∈ darkPhases, p ∉ [Phase.lit3, Phase.lit2, Phase.lit1, Phase.litDp] := by decide
  exact h.dark (State.not_lit_of_phase rfl (hnot _ hphase))

/-- The phase that follows a lit one is dark; both are phases of a frame. -/
theorem GapAfter.phases {c next : PhaseCode} (h : GapAfter c next) :
    next ∈ darkPhases ∧ 0x2 ≤ c.toNat ∧ c.toNat ≤ 0xA := by
  cases h <;> decide

/-- The phase that a gap goes on to is a digit sub-frame; both are phases of a frame. -/
theorem LoadAfter.phases {c next : PhaseCode} {p : Position} (h : LoadAfter c p next) :
    (next = Phase.lit3 ∨ next = Phase.lit2 ∨ next = Phase.lit1) ∧ c ∈ darkPhases ∧ 0x2 ≤ c.toNat ∧ c.toNat ≤ 0xA := by
  cases h <;> decide

/-- RangeSelect gives 1 or 2 places, whatever the value (R153). -/
theorem rangeSelect_places (v : Nat) : (rangeSelect v).2 = 1 ∨ (rangeSelect v).2 = 2 := by
  rcases rangeSelect_cases v with ⟨_, hr⟩ | ⟨_, hr⟩ <;> rw [hr]
  · exact .inr rfl
  · exact .inl rfl

/-- Every path of a tick keeps the display invariant. -/
theorem State.Tick.displayInv {s u : State} (htick : s.Tick u) (h : s.DisplayInv) : u.DisplayInv := by
  cases htick with
  | wait _ _ => exact h.congr rfl rfl rfl rfl
  | take hphase _ _ | complete hphase _ _ =>
    obtain ⟨hdig, hseg⟩ := h.dark_of_phase (by rw [hphase]; decide)
    exact displayInv_of_dark (c := Phase.setup) rfl (by decide) hdig hseg fun hle => absurd hle (by decide)
  | setup _ =>
    exact displayInv_of_litDigit (p := .p3) (.inl s.startFrame_phase) s.startFrame_dig
      (by rw [State.startFrame_seg]; exact noRomEntryLightsThePoint _ _) (rangeSelect_places s.disp.toNat)
  | holdOn _ _ _ => exact h.congr rfl rfl rfl rfl
  | holdLast hgap hphase _ =>
    obtain ⟨hnext, hlow, hhigh⟩ := hgap.phases
    exact displayInv_of_dark (State.goto_phase _ _) hnext rfl rfl fun _ => h.places (hphase ▸ hlow) (hphase ▸ hhigh)
  | gapLoad hload hphase =>
    obtain ⟨hnext, _, hlow, hhigh⟩ := hload.phases
    exact displayInv_of_litDigit hnext (State.loadNext_dig ..)
      (by rw [State.loadNext_seg]; exact noRomEntryLightsThePoint _ _)
      (by rw [State.loadNext_dpp]; exact h.places (hphase ▸ hlow) (hphase ▸ hhigh))
  | gapPoint hphase =>
    exact displayInv_of_point rfl rfl rfl (h.places (by rw [hphase]; decide) (by rw [hphase]; decide))
  | deadline hphase _ | padding hphase _ =>
    obtain ⟨hdig, hseg⟩ := h.dark_of_phase (by rcases hphase with hphase | hphase <;> rw [hphase] <;> decide)
    refine displayInv_of_dark (State.goto_phase _ _) (by decide) hdig hseg fun _ => h.places ?_ h.phaseRange
    rcases hphase with hphase | hphase <;> rw [hphase] <;> decide
  | recover hphase => exact absurd h.phaseRange (Nat.not_le_of_lt hphase)

theorem State.resetRegisters_displayInv (s : State) : s.resetRegisters.DisplayInv :=
  displayInv_of_dark s.resetRegisters_phase (by decide) rfl rfl fun hle => absurd hle (by decide)

end Sys2Proof.Machine
end

section
/-! PROOFS. The invariants along a step (spec/10_state.md R42, spec/42_multiplexer.md R154 to R169, spec/43_filter.md R192 to
R200, spec/70_reset_and_hazards.md R302). Each is kept by every path of a tick and by RESET (`step_keeps`). -/

namespace Sys2Proof.Machine

/- ==== The filter along a tick ==== -/

/-- What a tick can do to the filter: leave it, take a sample into the batch, or complete the batch. -/
theorem State.Tick.filter_cases {s u : State} (htick : s.Tick u) :
    (s.KeepsFilter u ∧ u.bd = false) ∨
    (s.phase = Phase.sample ∧ s.inputs.adcValid = true ∧ s.cnt.toNat ≠ 31 ∧ u = { s.clearBd with
      acc := s.feedSum, cnt := BitVec.ofNat 5 (s.cnt.toNat + 1), phase := Phase.setup }) ∨
    (s.phase = Phase.sample ∧ s.inputs.adcValid = true ∧ s.cnt.toNat = 31 ∧
      u = { s.decimate s.feedSum with acc := 0, cnt := 0, phase := Phase.setup }) := by
  by_cases hphase : s.phase = Phase.sample
  · cases htick with
    | wait _ _ => exact .inl ⟨s.keepsFilter_clearBd, rfl⟩
    | take _ hvalid hcnt => exact .inr (.inl ⟨hphase, hvalid, hcnt, rfl⟩)
    | complete _ hvalid hcnt => exact .inr (.inr ⟨hphase, hvalid, hcnt, rfl⟩)
    | setup h | gapPoint h => exact absurd (hphase.symm.trans h) (by decide)
    | holdOn hgap h _ | holdLast hgap h _ => subst h; rw [hphase] at hgap; nomatch hgap
    | gapLoad hload h => subst h; rw [hphase] at hload; nomatch hload
    | deadline h _ | padding h _ => rw [hphase] at h; exact absurd h (by decide)
    | recover h => rw [hphase] at h; exact absurd h (by decide)
  · exact .inl (htick.keepsFilter hphase)

/-- The sum of a FEED stays in the range of R42 for a batch with one sample more, and fits 15 bits (R201). -/
theorem State.feedSum_le {s : State} (h : s.acc.toNat ≤ 1023 * s.cnt.toNat) :
    s.feedSum.toNat ≤ 1023 * (s.cnt.toNat + 1) := by
  have hv := s.inputs.adcData.isLt
  have hc := s.cnt.isLt
  rw [s.feedSum_toNat (by omega)]
  omega

/-- Item 1 of R42. -/
theorem State.Tick.sumBound {s u : State} (htick : s.Tick u) (h : s.acc.toNat ≤ 1023 * s.cnt.toNat) :
    u.acc.toNat ≤ 1023 * u.cnt.toNat := by
  rcases htick.filter_cases with ⟨hkeep, _⟩ | ⟨_, _, hcnt, rfl⟩ | ⟨_, _, _, rfl⟩
  · rw [hkeep.acc, hkeep.cnt]
    exact h
  · exact (State.feedSum_le h).trans_eq (congrArg (1023 * ·) (count_succ_toNat hcnt).symm)
  · exact Nat.zero_le _

/-- Item 5 of R42, DISP: a new display value is clamped. -/
theorem State.Tick.dispRange {s u : State} (htick : s.Tick u) (h : s.disp.toNat ≤ 9999) : u.disp.toNat ≤ 9999 := by
  rcases htick.filter_cases with ⟨hkeep, _⟩ | ⟨_, _, _, rfl⟩ | ⟨_, _, _, rfl⟩
  · rw [hkeep.disp]
    exact h
  · exact h
  · exact (s.scale_disp_toNat _).trans_le (Nat.min_le_left _ _)

/- ==== The frame's timer and value along a tick ==== -/

/-- Item 5 of R42, FT. -/
theorem State.Tick.timerRange {s u : State} (htick : s.Tick u) (h : s.ft.toNat ≤ 10000) : u.ft.toNat ≤ 10000 := by
  cases htick with
  | wait | take | complete | recover => exact h
  | setup => exact Nat.le_of_ble_eq_true rfl
  | _ => exact s.clearBd.tickFrame_ft_toNat.trans_le (Nat.min_le_right _ _)

/-- Item 5 of R42, FV. -/
theorem State.Tick.valueRange {s u : State} (htick : s.Tick u) (hdisp : s.disp.toNat ≤ 9999) (h : s.fv.toNat ≤ 999) :
    u.fv.toNat ≤ 999 := by
  cases htick with
  | setup =>
    exact s.startFrame_fv_toNat.trans_le ((Nat.div_le_self _ _).trans (rangeSelect_fst_le hdisp))
  | gapLoad => exact (s.loadNext_fv_toNat _ _).trans_le ((Nat.div_le_self _ _).trans h)
  | _ => exact h

/- ==== The reachable invariant (R42) ==== -/

theorem inv_of_parts {s : State} (hdisplay : s.DisplayInv) (hsum : s.acc.toNat ≤ 1023 * s.cnt.toNat)
    (hft : s.ft.toNat ≤ 10000) (hfv : s.fv.toNat ≤ 999) (hdisp : s.disp.toNat ≤ 9999) : s.Inv :=
  ⟨hsum, hdisplay.phaseRange, hdisplay.oneLine, hdisplay.lineIffLit, hdisplay.darkSeg, hdisplay.noPoint,
    hdisplay.pointOnly, hft, hfv, hdisp, hdisplay.places, fun _ => Nat.le_of_lt_succ s.hc.isLt⟩

theorem State.Tick.inv {s u : State} (htick : s.Tick u) (h : s.Inv) : u.Inv :=
  inv_of_parts (htick.displayInv h.display) (htick.sumBound h.sumBound) (htick.timerRange h.timerRange)
    (htick.valueRange h.dispRange h.valueRange) (htick.dispRange h.dispRange)

theorem State.resetRegisters_inv (s : State) : s.resetRegisters.Inv :=
  inv_of_parts s.resetRegisters_displayInv (Nat.zero_le _) (Nat.zero_le _) (Nat.zero_le _) (Nat.zero_le _)

theorem State.Inv.advance {s : State} (h : s.Inv) : s.advance.Inv :=
  inv_of_parts (h.display.congr rfl rfl rfl rfl) h.sumBound h.timerRange h.valueRange h.dispRange

/-- Settles O45: the display by `State.Tick.displayInv`, the registers' ranges one by one. -/
theorem stepKeepsTheReachableInvariant : Obligations.StepKeepsTheReachableInvariant := fun _ _ hs hstep =>
  step_keeps (P := State.Inv) (fun _ => State.Inv.advance) State.resetRegisters_inv (fun _ htick => htick.inv hs) hs hstep

/- ==== The readings (R192 to R200) ==== -/

theorem State.resetRegisters_readingsFollow (s : State) : s.resetRegisters.ReadingsFollow := by
  refine ⟨Nat.zero_le _, ?reading, ?_, ?_, ?_⟩
  case reading =>
    rw [State.resetRegisters_block]
    cases s.block.val.roundMode <;> simp
  all_goals simp

/-- A tick changes the readings only in the FEED that completes a batch, whose sum R42 bounds. -/
theorem State.Tick.readingsFollow {s u : State} (htick : s.Tick u) (hs : s.Inv) (h : s.ReadingsFollow) :
    u.ReadingsFollow := by
  rcases htick.filter_cases with ⟨hkeep, _⟩ | ⟨_, _, _, rfl⟩ | ⟨_, _, hcnt, rfl⟩
  · exact h.congr hkeep.toKeepsReadings
  · exact h.congr ⟨rfl, rfl, rfl, rfl, rfl, rfl⟩
  · have hsum := State.feedSum_le hs.sumBound
    rw [hcnt] at hsum
    exact (s.decimate_readingsFollow hsum).congr ⟨rfl, rfl, rfl, rfl, rfl, rfl⟩

/-- Settles O46, by `State.Tick.readingsFollow`. -/
theorem stepKeepsTheReadingsTrue : Obligations.StepKeepsTheReadingsTrue := fun _ _ hs hreadings hstep =>
  step_keeps (fun s h => h.congr s.keepsFilter_advance.toKeepsReadings) State.resetRegisters_readingsFollow
    (fun _ htick => htick.readingsFollow hs hreadings) hreadings hstep

/-- Settles O48: only the FEED that completes a batch leaves BD at 1, and it leaves SETUP with the batch empty. -/
theorem batchDoneIsOneTick : Obligations.BatchDoneIsOneTick := by
  intro s t hactive hstep
  have hclear (u : State) (hbd : u.bd = false) :
      u.BatchDoneInSetup ∧ (u.bd = true → s.transfers = true ∧ s.cnt.toNat = 31) := by
    constructor <;> intro h <;> exact absurd (hbd.symm.trans h) Bool.false_ne_true
  rcases step_paths hstep with ⟨hidle, _⟩ | ⟨_, rfl⟩ | ⟨hrun, u, htick, rfl⟩
  · exact absurd (hidle.symm.trans hactive) Bool.false_ne_true
  · exact hclear _ rfl
  · rcases htick.filter_cases with ⟨_, hbd⟩ | ⟨_, _, _, rfl⟩ | ⟨hphase, hvalid, hcnt, rfl⟩
    · exact hclear _ hbd
    · exact hclear _ rfl
    · refine ⟨fun _ => ⟨rfl, rfl, rfl⟩, fun _ => ⟨?_, hcnt⟩⟩
      rw [State.transfers, hrun, hvalid, hphase]
      rfl

/- ==== Break before make (R302) ==== -/

/-- A tick from a lit sub-frame stays in it with the display as it is, or turns everything off. -/
theorem State.Tick.of_lit {s u : State} (htick : s.Tick u) (hlit : s.lit) :
    (u.phase = s.phase ∧ u.dig = s.dig ∧ u.seg = s.seg) ∨ (u.dig = 0 ∧ u.seg = 0) := by
  have hnot {c : PhaseCode} (h : s.phase = c) (hc : c ∉ [Phase.lit3, Phase.lit2, Phase.lit1, Phase.litDp]) : False :=
    State.not_lit_of_phase h hc hlit
  cases htick with
  | wait | holdOn => exact .inl ⟨rfl, rfl, rfl⟩
  | holdLast | recover => exact .inr ⟨rfl, rfl⟩
  | take h | complete h | setup h | gapPoint h => exact (hnot h (by decide)).elim
  | gapLoad hload h => cases hload <;> exact (hnot h (by decide)).elim
  | deadline h | padding h => rcases h with h | h <;> exact (hnot h (by decide)).elim

/-- With both display registers 0 the ports show nothing. -/
theorem State.outputs_dark {s : State} (hdig : s.dig = 0) (hseg : s.seg = 0) :
    s.outputs.dig = 0b000#3 ∧ s.outputs.segN = 0xFF#8 := by
  rw [State.outputs_dig, State.outputs_segN, hdig, hseg]
  decide

/-- Settles O50. Only a lit tick has a line HIGH; from there `State.Tick.of_lit` leaves two ways, and from an all-off tick
there is nothing to break. -/
theorem breakBeforeMake : Obligations.BreakBeforeMake := by
  intro s t hs hstep
  by_cases hlit : s.lit
  · have hnext : (t.phase = s.phase ∧ t.dig = s.dig ∧ t.seg = s.seg) ∨ (t.dig = 0 ∧ t.seg = 0) := by
      rcases step_paths hstep with ⟨_, rfl⟩ | ⟨_, rfl⟩ | ⟨_, u, htick, rfl⟩
      · exact .inl ⟨rfl, rfl, rfl⟩
      · exact .inr ⟨rfl, rfl⟩
      · exact htick.of_lit hlit
    rcases hnext with ⟨hphase, hdig, hseg⟩ | ⟨hdig, hseg⟩
    · exact ⟨fun _ _ => ⟨hdig, hseg, hphase⟩, fun hne => absurd hphase hne, fun hne => absurd hphase hne⟩
    · exact ⟨fun _ hon => absurd hdig hon, fun _ hon => absurd hdig hon, fun _ _ => State.outputs_dark hdig hseg⟩
  · obtain ⟨hdig, hseg⟩ := hs.display.dark hlit
    exact ⟨fun hon => absurd hdig hon, fun _ _ => State.outputs_dark hdig hseg, fun _ hon => absurd hdig hon⟩

end Sys2Proof.Machine
end

section
/-! PROOFS. What a frame shows along a step (spec/42_multiplexer.md R154, R156, R169): after each path the phase is known,
and of the claims of `State.FrameShows` only those about that phase remain. -/

namespace Sys2Proof.Machine

theorem State.FrameShows.congr {s t : State} (h : s.FrameShows) (hblock : t.block = s.block) (hdisp : t.disp = s.disp)
    (hphase : t.phase = s.phase) (hdig : t.dig = s.dig) (hseg : t.seg = s.seg) (hfv : t.fv = s.fv)
    (hdpp : t.dpp = s.dpp) : t.FrameShows where
  places := by rw [hphase, hdpp, hdisp]; exact h.places
  third := by rw [hphase, hdig, hseg, hblock, hdisp]; exact h.third
  restTwo := by rw [hphase, hfv, hdisp]; exact h.restTwo
  second := by rw [hphase, hdig, hseg, hblock, hdisp]; exact h.second
  restOne := by rw [hphase, hfv, hdisp]; exact h.restOne
  first := by rw [hphase, hdig, hseg, hblock, hdisp]; exact h.first
  restNone := by rw [hphase, hfv]; exact h.restNone
  point := by rw [hphase, hdig, hseg, hdisp]; exact h.point

/-- In SAMPLE and SETUP no frame is shown. -/
theorem frameShows_of_idle {s : State} (hphase : s.phase = Phase.sample ∨ s.phase = Phase.setup) : s.FrameShows := by
  rcases hphase with hphase | hphase <;> constructor <;> simp +decide [hphase]

theorem frameShows_of_lit3 {s : State} (hphase : s.phase = Phase.lit3) (hdpp : s.dpp = (rangeSelect s.disp.toNat).2)
    (hdig : s.dig = 0b100) (hseg : s.seg = (patRom s.block (digitCode (rangeSelect s.disp.toNat).1)).seg)
    (hfv : s.fv.toNat = (rangeSelect s.disp.toNat).1 / 10) : s.FrameShows := by
  constructor <;> simp +decide [hphase, hdpp, hdig, hseg, hfv]

theorem frameShows_of_gap3 {s : State} (hphase : s.phase = Phase.gap3) (hdpp : s.dpp = (rangeSelect s.disp.toNat).2)
    (hfv : s.fv.toNat = (rangeSelect s.disp.toNat).1 / 10) : s.FrameShows := by
  constructor <;> simp +decide [hphase, hdpp, hfv]

theorem frameShows_of_lit2 {s : State} (hphase : s.phase = Phase.lit2) (hdpp : s.dpp = (rangeSelect s.disp.toNat).2)
    (hdig : s.dig = 0b010) (hseg : s.seg = (patRom s.block (digitCode ((rangeSelect s.disp.toNat).1 / 10))).seg)
    (hfv : s.fv.toNat = (rangeSelect s.disp.toNat).1 / 100) : s.FrameShows := by
  constructor <;> simp +decide [hphase, hdpp, hdig, hseg, hfv]

theorem frameShows_of_gap2 {s : State} (hphase : s.phase = Phase.gap2) (hdpp : s.dpp = (rangeSelect s.disp.toNat).2)
    (hfv : s.fv.toNat = (rangeSelect s.disp.toNat).1 / 100) : s.FrameShows := by
  constructor <;> simp +decide [hphase, hdpp, hfv]

theorem frameShows_of_lit1 {s : State} (hphase : s.phase = Phase.lit1) (hdpp : s.dpp = (rangeSelect s.disp.toNat).2)
    (hdig : s.dig = 0b001) (hseg : s.seg = (patRom s.block (digitCode ((rangeSelect s.disp.toNat).1 / 100))).seg)
    (hfv : s.fv.toNat = 0) : s.FrameShows := by
  constructor <;> simp +decide [hphase, hdpp, hdig, hseg, hfv]

theorem frameShows_of_gap1 {s : State} (hphase : s.phase = Phase.gap1) (hdpp : s.dpp = (rangeSelect s.disp.toNat).2)
    (hfv : s.fv.toNat = 0) : s.FrameShows := by
  constructor <;> simp +decide [hphase, hdpp, hfv]

theorem frameShows_of_point {s : State} (hphase : s.phase = Phase.litDp) (hdpp : s.dpp = (rangeSelect s.disp.toNat).2)
    (hdig : s.dig = (dpOnehot (rangeSelect s.disp.toNat).2).1) (hseg : s.seg = 0x80) : s.FrameShows := by
  constructor <;> simp +decide [hphase, hdpp, hdig, hseg]

theorem frameShows_of_end {s : State} (hphase : s.phase = Phase.gapDp ∨ s.phase = Phase.pad)
    (hdpp : s.dpp = (rangeSelect s.disp.toNat).2) : s.FrameShows := by
  rcases hphase with hphase | hphase <;> constructor <;> simp +decide [hphase, hdpp]

/-- The decimal point of a frame is one segment, on the line its places choose (R156). -/
theorem dpOnehot_rangeSelect_seg (v : Nat) : (dpOnehot (rangeSelect v).2).2 = 0x80 := by
  rcases rangeSelect_places v with h | h <;> rw [h] <;> rfl

/-- The last tick of a lit phase passes on the digits that are left. -/
theorem State.FrameShows.holdLast {s : State} (h : s.FrameShows) {c next : PhaseCode} (hgap : GapAfter c next)
    (hphase : s.phase = c) : (s.clearBd.tickFrame.dark.goto next).FrameShows := by
  obtain ⟨_, hlow, hhigh⟩ := hgap.phases
  have hdpp := h.places (hphase ▸ hlow) (hphase ▸ hhigh)
  cases hgap with
  | lit3 => exact frameShows_of_gap3 rfl hdpp (h.restTwo (.inl hphase))
  | lit2 => exact frameShows_of_gap2 rfl hdpp (h.restOne (.inl hphase))
  | lit1 => exact frameShows_of_gap1 rfl hdpp (h.restNone (.inl hphase))
  | litDp => exact frameShows_of_end (.inl rfl) hdpp

/-- A gap loads the last of the digits that are left. -/
theorem State.FrameShows.gapLoad {s : State} (h : s.FrameShows) (hdisp : s.disp.toNat ≤ 9999) {c next : PhaseCode}
    {p : Position} (hload : LoadAfter c p next) (hphase : s.phase = c) :
    (s.loadNext p next).FrameShows := by
  obtain ⟨_, _, hlow, hhigh⟩ := hload.phases
  have hdpp := h.places (hphase ▸ hlow) (hphase ▸ hhigh)
  have hx := rangeSelect_fst_le hdisp
  have hrest := s.loadNext_fv_toNat p next
  cases hload with
  | gap3 =>
    have hfv := h.restTwo (.inr hphase)
    rw [hfv, Nat.div_div_eq_div_mul] at hrest
    exact frameShows_of_lit2 rfl (by simpa using hdpp) rfl (by simp [hfv]) (by simpa using hrest)
  | gap2 =>
    have hfv := h.restOne (.inr hphase)
    have hnone : s.fv.toNat / 10 = 0 := by omega
    exact frameShows_of_lit1 rfl (by simpa using hdpp) rfl (by simp [hfv]) (hrest.trans hnone)

/-- SETUP shows the last digit of the frame's value and keeps the others (R152). -/
theorem State.startFrame_frameShows (s : State) : s.startFrame.FrameShows :=
  frameShows_of_lit3 s.startFrame_phase (by simp) s.startFrame_dig (by simp) (by simp [s.startFrame_fv_toNat])

/-- Every path of a tick keeps what the frame shows. -/
theorem State.Tick.frameShows {s u : State} (htick : s.Tick u) (hdisp : s.disp.toNat ≤ 9999) (h : s.FrameShows) :
    u.FrameShows := by
  have hframe {c : PhaseCode} (hc : 0x2 ≤ c.toNat ∧ c.toNat ≤ 0xA) (hphase : s.phase = c) :
      s.dpp = (rangeSelect s.disp.toNat).2 := h.places (hphase ▸ hc.1) (hphase ▸ hc.2)
  cases htick with
  | wait hphase _ => exact frameShows_of_idle (.inl hphase)
  | take | complete => exact frameShows_of_idle (.inr rfl)
  | setup => exact s.startFrame_frameShows
  | holdOn => exact h.congr rfl rfl rfl rfl rfl rfl rfl
  | holdLast hgap hphase _ => exact h.holdLast hgap hphase
  | gapLoad hload hphase => exact h.gapLoad hdisp hload hphase
  | gapPoint hphase =>
    have hdpp := hframe (by decide) hphase
    rw [hdpp]
    exact frameShows_of_point rfl hdpp rfl (dpOnehot_rangeSelect_seg _)
  | deadline | recover => exact frameShows_of_idle (.inl rfl)
  | padding hphase _ =>
    exact frameShows_of_end (.inr rfl) (hphase.elim (hframe (by decide)) (hframe (by decide)))

theorem State.resetRegisters_frameShows (s : State) : s.resetRegisters.FrameShows := frameShows_of_idle (.inl rfl)

/-- Settles O47, by `State.Tick.frameShows`. -/
theorem stepKeepsTheFrameTrue : Obligations.StepKeepsTheFrameTrue := fun _ _ hs hshows hstep =>
  step_keeps (fun _ h => h.congr rfl rfl rfl rfl rfl rfl rfl) State.resetRegisters_frameShows
    (fun _ htick => htick.frameShows hs.dispRange hshows) hshows hstep

/-- Settles O44: the reset state is what RESET leaves of itself, so it has what RESET gives. -/
theorem resetStateIsSafe : Obligations.ResetStateIsSafe :=
  ⟨State.resetRegisters_inv State.reset, State.resetRegisters_readingsFollow State.reset,
    fun hbd => absurd hbd Bool.false_ne_true, State.resetRegisters_frameShows State.reset⟩

/- ==== The frame after a completed batch (R301) ==== -/

/-- A step, whatever it does, uses up one input word. -/
theorem step_inputsAt {s t : State} (h : step s = .next t) (j : Nat) : t.inputsAt j = s.inputsAt (j + 1) := by
  rcases step_cases h with ⟨_, u, hexec, rfl⟩ | ⟨_, rfl⟩
  · obtain ⟨hstim, hedge⟩ := exec_environment hexec
    rw [State.advance_inputsAt, State.inputsAt_congr hstim hedge]
  · exact s.advance_inputsAt j

theorem State.transfers_iff (s : State) :
    s.transfers = true ↔ s.inputs.running = true ∧ s.inputs.adcValid = true ∧ s.phase = Phase.sample := by
  rw [State.transfers, Bool.and_eq_true, Bool.and_eq_true, beq_iff_eq, and_assoc]

/-- Settles O27: the transfer takes the path `complete`, and the next tick, in SETUP, reads what it left in DISP. -/
theorem setupReadsTheFreshReading : Obligations.SetupReadsTheFreshReading := by
  intro s hruns htransfers hcnt
  obtain ⟨hrun, hvalid, hphase⟩ := s.transfers_iff.mp htransfers
  have hfeed := (State.Tick.complete hphase hvalid hcnt).step_eq hrun
  have hnext : State.inputs _ = s.inputsAt 1 := step_inputsAt hfeed 0
  have hsetup := (State.Tick.setup rfl).step_eq (hnext ▸ hruns 1 (by decide))
  exact ⟨_, _, hfeed, hsetup, rfl, rfl, rfl, rfl, rfl, rfl, rfl, rfl⟩

end Sys2Proof.Machine
end

section
/-! PROOFS. Ticks to SAMPLE (spec/42_multiplexer.md R163 to R166, spec/70_reset_and_hazards.md R308): the closed form phase by
phase, and that every tick outside SAMPLE takes one from it. -/

namespace Sys2Proof.Machine

/- ==== The closed form, phase by phase ==== -/

theorem State.ticksToSample_of_sample {s : State} (h : s.phase = Phase.sample) : s.ticksToSample = 0 := by
  simp [State.ticksToSample, h]

theorem State.ticksToSample_of_setup {s : State} (h : s.phase = Phase.setup) :
    s.ticksToSample = frameLength s.block s.disp.toNat := by
  simp [State.ticksToSample, h]

theorem State.ticksToSample_of_reserved {s : State} (h : 0xB ≤ s.phase.toNat) : s.ticksToSample = 1 := by
  have hcode : s.phase.toNat = 0xB ∨ s.phase.toNat = 0xC ∨ s.phase.toNat = 0xD ∨ s.phase.toNat = 0xE ∨
      s.phase.toNat = 0xF := by omega
  rcases hcode with h | h | h | h | h <;> simp [State.ticksToSample, h]

/-- In a frame phase the work left or the ticks to the deadline decide, whichever is more. -/
theorem State.ticksToSample_of_frame {s : State} {c : PhaseCode} (h : s.phase = c)
    (hc : 0x2 ≤ c.toNat ∧ c.toNat ≤ 0xA) : s.ticksToSample = max s.workLeft (10000 - s.ft.toNat) := by
  subst h
  have hcode : s.phase.toNat = 0x2 ∨ s.phase.toNat = 0x3 ∨ s.phase.toNat = 0x4 ∨ s.phase.toNat = 0x5 ∨
      s.phase.toNat = 0x6 ∨ s.phase.toNat = 0x7 ∨ s.phase.toNat = 0x8 ∨ s.phase.toNat = 0x9 ∨ s.phase.toNat = 0xA := by
    omega
  rcases hcode with h | h | h | h | h | h | h | h | h <;> simp [State.ticksToSample, h]

/-- A lit phase has its hold count and then the work of the gap that follows. -/
theorem State.workLeft_of_lit {s : State} {c next : PhaseCode} (hgap : GapAfter c next) (h : s.phase = c) :
    s.workLeft = s.hc.toNat + 1 + (s.goto next).workLeft := by
  cases hgap <;> simp [State.workLeft, h] <;> omega

theorem State.workLeft_of_gap3 {s : State} (h : s.phase = Phase.gap3) :
    s.workLeft = 1 + digitTicks s.block s.fv.toNat + 1 + digitTicks s.block (s.fv.toNat / 10) + 1 +
      (s.block.val.dpUs + 1) := by
  simp [State.workLeft, h]

theorem State.workLeft_of_gap2 {s : State} (h : s.phase = Phase.gap2) :
    s.workLeft = 1 + digitTicks s.block s.fv.toNat + 1 + (s.block.val.dpUs + 1) := by
  simp [State.workLeft, h]

theorem State.workLeft_of_gap1 {s : State} (h : s.phase = Phase.gap1) : s.workLeft = 1 + (s.block.val.dpUs + 1) := by
  simp [State.workLeft, h]

theorem State.workLeft_of_end {s : State} (h : s.phase = Phase.gapDp ∨ s.phase = Phase.pad) : s.workLeft = 1 := by
  rcases h with h | h <;> simp [State.workLeft, h]

/-- The work of a gap does not depend on the hold count, the timer or the display. -/
theorem workLeft_goto_congr {s u : State} {c next : PhaseCode} (hgap : GapAfter c next) (hblock : u.block = s.block)
    (hfv : u.fv = s.fv) : (u.goto next).workLeft = (s.goto next).workLeft := by
  cases hgap <;> simp [State.workLeft, hblock, hfv]

/-- In one lit phase the work differs by the hold count. -/
theorem workLeft_lit_congr {s u : State} {c next : PhaseCode} (hgap : GapAfter c next) (hs : s.phase = c)
    (hu : u.phase = c) (hblock : u.block = s.block) (hfv : u.fv = s.fv) :
    u.workLeft + s.hc.toNat = s.workLeft + u.hc.toNat := by
  rw [State.workLeft_of_lit hgap hs, State.workLeft_of_lit hgap hu, workLeft_goto_congr hgap hblock hfv]
  omega

/- ==== The work along a tick ==== -/

/-- SETUP does the first tick of the work of its frame (R152). -/
theorem State.startFrame_workLeft (s : State) : s.startFrame.workLeft + 1 = frameWork s.block s.disp.toNat := by
  rw [State.workLeft_of_lit .lit3 s.startFrame_phase, State.workLeft_of_gap3 (State.goto_phase _ _), State.goto_block,
    State.goto_fv, s.startFrame_hc_toNat, s.startFrame_block, s.startFrame_fv_toNat, Nat.div_div_eq_div_mul]
  simp only [frameWork, digitTicks, Nat.reduceMul]
  omega

/-- GAP_LOAD does the one tick of its gap (R159). -/
theorem State.loadNext_workLeft {s : State} {c next : PhaseCode} {p : Position} (hload : LoadAfter c p next)
    (h : s.phase = c) : (s.loadNext p next).workLeft + 1 = s.workLeft := by
  cases hload with
  | gap3 =>
    rw [State.workLeft_of_gap3 h, State.workLeft_of_lit .lit2 (State.loadNext_phase ..), s.loadNext_hc_toNat,
      State.workLeft_of_gap2 (State.goto_phase ..), State.goto_block, State.goto_fv, State.loadNext_block,
      s.loadNext_fv_toNat]
    simp only [digitTicks]
    omega
  | gap2 =>
    rw [State.workLeft_of_gap2 h, State.workLeft_of_lit .lit1 (State.loadNext_phase ..), s.loadNext_hc_toNat,
      State.workLeft_of_gap1 (State.goto_phase ..), State.goto_block, State.loadNext_block]
    simp only [digitTicks]
    omega

/-- A tick that does one tick of the work and counts it brings SAMPLE one tick nearer. -/
theorem ticksToSample_of_work {s u : State} {c d : PhaseCode} (hs : s.phase = c) (hc : 0x2 ≤ c.toNat ∧ c.toNat ≤ 0xA)
    (hu : u.phase = d) (hd : 0x2 ≤ d.toNat ∧ d.toNat ≤ 0xA) (hft : u.ft = s.clearBd.tickFrame.ft)
    (hwork : u.workLeft + 1 = s.workLeft) : u.ticksToSample + 1 = s.ticksToSample := by
  rw [State.ticksToSample_of_frame hs hc, State.ticksToSample_of_frame hu hd, hft, State.tickFrame_ft_toNat,
    State.clearBd_ft]
  omega

/-- At the end of a frame only the deadline is left. -/
theorem State.ticksToSample_of_end {s : State} (h : s.phase = Phase.gapDp ∨ s.phase = Phase.pad) :
    s.ticksToSample = max 1 (10000 - s.ft.toNat) := by
  rw [← State.workLeft_of_end h]
  exact h.elim (State.ticksToSample_of_frame · (by decide)) (State.ticksToSample_of_frame · (by decide))

/-- Outside SAMPLE every tick takes one from the ticks to SAMPLE. -/
theorem State.Tick.ticksToSample {s u : State} (htick : s.Tick u) (hphase : s.phase ≠ Phase.sample) :
    u.ticksToSample + 1 = s.ticksToSample := by
  cases htick with
  | wait h | take h | complete h => exact absurd h hphase
  | setup h =>
    rw [State.ticksToSample_of_setup h, State.ticksToSample_of_frame s.startFrame_phase (by decide), frameLength,
      ← s.startFrame_workLeft]
    show max _ (10000 - 1) + 1 = max 10000 _
    omega
  | holdOn hgap h hrest =>
    have hcount : (s.hc - 1).toNat + 1 = s.hc.toNat := by bv_omega
    have hless {w : Nat} (hwork : w + s.hc.toNat = s.workLeft + (s.hc - 1).toNat) : w + 1 = s.workLeft := by omega
    exact ticksToSample_of_work h hgap.phases.2 h hgap.phases.2 rfl (hless (workLeft_lit_congr hgap h h rfl rfl))
  | @holdLast c next hgap h hlast =>
    have hnext : 0x2 ≤ next.toNat ∧ next.toNat ≤ 0xA := by cases hgap <;> decide
    refine ticksToSample_of_work h hgap.phases.2 (State.goto_phase _ _) hnext rfl ?_
    rw [State.workLeft_of_lit hgap h, workLeft_goto_congr (s := s) hgap rfl rfl, hlast]
    exact Nat.add_comm _ _
  | @gapLoad c p next hload h =>
    have hnext : 0x2 ≤ next.toNat ∧ next.toNat ≤ 0xA := by cases hload <;> decide
    exact ticksToSample_of_work h hload.phases.2.2 (s.loadNext_phase p next) hnext (s.loadNext_ft p next)
      (State.loadNext_workLeft hload h)
  | gapPoint h =>
    refine ticksToSample_of_work (d := Phase.litDp) h (by decide) rfl (by decide) rfl ?_
    have hhc := Block.pointHold_toNat s.block
    rw [State.workLeft_of_gap1 h, State.workLeft_of_lit .litDp rfl, State.workLeft_of_end (.inl rfl)]
    dsimp only
    omega
  | deadline h hft =>
    rw [State.ticksToSample_of_end h, State.ticksToSample_of_sample (State.goto_phase _ _)]
    omega
  | padding h hft =>
    rw [State.ticksToSample_of_end h, State.ticksToSample_of_end (.inr (State.goto_phase _ _)), State.goto_ft,
      State.tickFrame_ft_toNat, State.clearBd_ft]
    omega
  | recover h => rw [State.ticksToSample_of_reserved h, State.ticksToSample_of_sample (State.goto_phase _ _)]

/-- The input words and the edge count are no part of the closed form. -/
theorem State.advance_ticksToSample (s : State) : s.advance.ticksToSample = s.ticksToSample := rfl

/-- Settles O51, by `State.Tick.ticksToSample`. -/
theorem everyTickBringsSampleNearer : Obligations.EveryTickBringsSampleNearer := by
  intro s hrun hphase
  obtain ⟨u, htick, hstep⟩ := step_of_running hrun
  exact ⟨_, hstep, htick.ticksToSample hphase⟩

/-- The closed form is 0 in SAMPLE and nowhere else. -/
theorem State.ticksToSample_eq_zero_iff (s : State) : s.ticksToSample = 0 ↔ s.phase = Phase.sample := by
  refine ⟨fun hzero => by_contra fun hphase => ?_, State.ticksToSample_of_sample⟩
  obtain ⟨u, htick⟩ := s.exists_tick
  have hticks := htick.ticksToSample hphase
  omega

end Sys2Proof.Machine
end

section
/-! PROOFS. Runs of several steps (one induction for all of them), held reset (spec/70_reset_and_hazards.md R293), and the
wait in SAMPLE and the ports that have no effect outside it (spec/44_sequencer.md R232, R234). -/

namespace Sys2Proof.Machine

/- ==== Runs ==== -/

/-- An invariant of a run, by the number of steps: it holds before the run, and every step on the inputs of its edge keeps
it. The run then answers, and the invariant holds after it. -/
theorem run_induction {P : Nat → State → Prop} : ∀ {n : Nat} {s : State}, P 0 s →
    (∀ j < n, ∀ t, P j t → t.inputs = s.inputsAt j → ∃ u, step t = .next u ∧ P (j + 1) u) →
    ∃ t, Host.Core.run core n s = .next t ∧ P n t
  | 0, s, h0, _ => ⟨s, rfl, h0⟩
  | n + 1, s, h0, hkeep => by
    obtain ⟨u, hstep, h1⟩ := hkeep 0 n.succ_pos s h0 rfl
    obtain ⟨t, hrun, hn⟩ := run_induction (P := fun j => P (j + 1)) (n := n) h1 fun j hj v hv hin =>
      hkeep (j + 1) (Nat.succ_lt_succ hj) v hv (hin.trans (step_inputsAt hstep j))
    exact ⟨t, (run_succ n hstep).trans hrun, hn⟩

theorem State.RunsFor.tail {s t : State} {n : Nat} (hruns : s.RunsFor (n + 1)) (hstep : step s = .next t) : t.RunsFor n :=
  fun j hj => (congrArg Inputs.running (step_inputsAt hstep j)).trans (hruns (j + 1) (Nat.succ_lt_succ hj))

/-- Ticks of normal running, one after another. -/
theorem run_ticks {P : Nat → State → Prop} {n : Nat} {s : State} (hruns : s.RunsFor n) (h0 : P 0 s)
    (hkeep : ∀ j < n, ∀ t u, P j t → t.Tick u → P (j + 1) u.advance) :
    ∃ t, Host.Core.run core n s = .next t ∧ P n t :=
  run_induction h0 fun j hj t ht hin => by
    obtain ⟨u, htick, hstep⟩ := step_of_running (hin ▸ hruns j hj)
    exact ⟨_, hstep, hkeep j hj t u ht htick⟩

/-- `s` with `j` more clock edges behind it, the registers as they are. -/
def State.skipEdges (s : State) (j : Nat) : State := { s with stim := s.stim.drop j, edge := s.edge + j }

theorem State.skipEdges_inputs (s : State) (j : Nat) : (s.skipEdges j).inputs = s.inputsAt j := by
  simp [State.inputs, State.inputsAt, State.skipEdges]

theorem State.skipEdges_advance (s : State) (j : Nat) : (s.skipEdges j).advance = s.skipEdges (j + 1) := by
  simp [State.skipEdges, State.advance, Nat.add_assoc]

/-- A run whose first step gives the registers `r`, which every further step leaves as they are. -/
theorem run_of_fixed_registers {s r : State} {n : Nat} (hfirst : step s = .next (r.skipEdges 1))
    (hstay : ∀ j < n, step (r.skipEdges (j + 1)) = .next (r.skipEdges (j + 1 + 1))) :
    Host.Core.run core (n + 1) s = .next (r.skipEdges (n + 1)) := by
  obtain ⟨t, hrun, rfl⟩ := run_induction (P := fun j t => t = r.skipEdges (j + 1)) (n := n) rfl fun j hj t ht _ =>
    ⟨_, ht ▸ hstay j hj, rfl⟩
  exact (run_succ n hfirst).trans hrun

/-- Settles O11: RESET of a reset block gives it back. -/
theorem heldResetKeepsTheResetState : Obligations.HeldResetKeepsTheResetState := by
  intro n s hrst
  have hreset (j : Nat) : (s.skipEdges j).resetRegisters.advance = s.resetRegisters.skipEdges (j + 1) :=
    s.resetRegisters.skipEdges_advance j
  refine run_of_fixed_registers (r := s.resetRegisters) ?_ fun j hj => ?_
  · exact (step_reset s (hrst 0 n.succ_pos)).trans (congrArg _ (hreset 0))
  · have hin : (s.resetRegisters.skipEdges (j + 1)).inputs.rst = true := by
      rw [State.skipEdges_inputs]
      exact hrst (j + 1) (Nat.succ_lt_succ hj)
    exact (step_reset _ hin).trans (congrArg _ (hreset (j + 1)))

/-- Settles O15: SAMPLE_WAIT of a block that has waited gives it back. -/
theorem waitingForASampleHasNoTimeout : Obligations.WaitingForASampleHasNoTimeout := by
  intro n s hphase hwait
  have hclear (j : Nat) : (s.skipEdges j).clearBd.advance = s.clearBd.skipEdges (j + 1) :=
    s.clearBd.skipEdges_advance j
  refine run_of_fixed_registers (r := s.clearBd) ?_ fun j hj => ?_
  · obtain ⟨hrun, hvalid⟩ := hwait 0 n.succ_pos
    exact ((State.Tick.wait hphase hvalid).step_eq hrun).trans (congrArg _ (hclear 0))
  · have hin : (s.clearBd.skipEdges (j + 1)).inputs = s.inputsAt (j + 1) := s.clearBd.skipEdges_inputs (j + 1)
    obtain ⟨hrun, hvalid⟩ := hwait (j + 1) (Nat.succ_lt_succ hj)
    rw [← hin] at hrun hvalid
    exact ((State.Tick.wait (s := s.clearBd.skipEdges (j + 1)) hphase hvalid).step_eq hrun).trans
      (congrArg _ (hclear (j + 1)))

/- ==== The ADC's ports outside SAMPLE (R234) ==== -/

/-- `s` with other input words pending. -/
def State.withStim (s : State) (ws : List Inputs) : State := { s with stim := ws }

/-- Outside SAMPLE the path of a tick does not depend on the words that are pending. -/
theorem State.Tick.withStim {s u : State} (htick : s.Tick u) (hphase : s.phase ≠ Phase.sample) (ws : List Inputs) :
    (s.withStim ws).Tick (u.withStim ws) := by
  cases htick with
  | wait h | take h | complete h => exact absurd h hphase
  | setup h => exact .setup h
  | holdOn hgap h hrest => exact .holdOn (s := s.withStim ws) hgap h hrest
  | holdLast hgap h hlast => exact .holdLast (s := s.withStim ws) hgap h hlast
  | gapLoad hload h => exact .gapLoad (s := s.withStim ws) hload h
  | gapPoint h => exact .gapPoint (s := s.withStim ws) h
  | deadline h hft => exact .deadline (s := s.withStim ws) h hft
  | padding h hft => exact .padding (s := s.withStim ws) h hft
  | recover h => exact .recover (s := s.withStim ws) h

/-- Settles O17: the edge is no tick, a RESET, or a path that `State.Tick.withStim` makes the same for both words. -/
theorem adcInputsHaveNoEffectOutsideSample : Obligations.AdcInputsHaveNoEffectOutsideSample := by
  intro s x y rest hphase hce hrst
  show ∃ t, step (s.withStim (x :: rest)) = .next t ∧ step (s.withStim (y :: rest)) = .next t
  by_cases hreset : x.rst = true
  · exact ⟨_, step_reset (s.withStim (x :: rest)) hreset, step_reset (s.withStim (y :: rest)) (hrst ▸ hreset)⟩
  by_cases hrun : x.running = true
  · obtain ⟨u, htick⟩ := s.exists_tick
    have hrun' : y.running = true := by rwa [Inputs.running, ← hce, ← hrst]
    exact ⟨_, (htick.withStim hphase (x :: rest)).step_eq hrun, (htick.withStim hphase (y :: rest)).step_eq hrun'⟩
  · have hidle : ¬ x.active = true := by simp_all [Inputs.running, Inputs.active]
    have hidle' : ¬ y.active = true := by rwa [Inputs.active, ← hce, ← hrst]
    exact ⟨_, step_of_not_active (s := s.withStim (x :: rest)) hidle,
      step_of_not_active (s := s.withStim (y :: rest)) hidle'⟩

end Sys2Proof.Machine
end

section
/-! PROOFS. The timeline of a frame (spec/42_multiplexer.md R162, R165): each phase of a frame begins at a fixed tick, a lit
phase ends when its hold count does, and in every tick the display lines are those of the table. -/

namespace Sys2Proof.Machine

/- ==== Where the phases of a frame stand ==== -/

/-- The frame tick in which a phase begins, in the frame that shows `disp` (R165). -/
def phaseStart (b : Block) (disp : Nat) (c : PhaseCode) : Nat :=
  let x := (rangeSelect disp).1
  let d3 := digitTicks b x
  let d2 := digitTicks b (x / 10)
  let d1 := digitTicks b (x / 100)
  match c.toNat with
  | 0x2 => 1
  | 0x3 => d3 + 1
  | 0x4 => d3 + 2
  | 0x5 => d3 + d2 + 2
  | 0x6 => d3 + d2 + 3
  | 0x7 => d3 + d2 + d1 + 3
  | 0x8 => d3 + d2 + d1 + 4
  | 0x9 => d3 + d2 + d1 + b.val.dpUs + 4
  | _ => frameWork b disp

section
variable (b : Block) (disp : Nat)

/- A digit sub-frame lasts the duration of its digit, the point `DP_US` ticks, a gap one tick (R165). -/
theorem phaseStart_lit3 : phaseStart b disp Phase.lit3 = 1 := rfl
theorem phaseStart_gap3 : phaseStart b disp Phase.gap3 = digitTicks b (rangeSelect disp).1 + 1 := rfl
theorem phaseStart_lit2 : phaseStart b disp Phase.lit2 = phaseStart b disp Phase.gap3 + 1 := rfl
theorem phaseStart_gap2 : phaseStart b disp Phase.gap2 =
    phaseStart b disp Phase.lit2 + digitTicks b ((rangeSelect disp).1 / 10) := Nat.add_right_comm _ _ 2
theorem phaseStart_lit1 : phaseStart b disp Phase.lit1 = phaseStart b disp Phase.gap2 + 1 := rfl
theorem phaseStart_gap1 : phaseStart b disp Phase.gap1 =
    phaseStart b disp Phase.lit1 + digitTicks b ((rangeSelect disp).1 / 100) := Nat.add_right_comm _ _ 3
theorem phaseStart_litDp : phaseStart b disp Phase.litDp = phaseStart b disp Phase.gap1 + 1 := rfl
theorem phaseStart_gapDp : phaseStart b disp Phase.gapDp = phaseStart b disp Phase.litDp + b.val.dpUs :=
  Nat.add_right_comm _ _ 4
theorem phaseStart_pad : phaseStart b disp Phase.pad = phaseStart b disp Phase.gapDp + 1 := rfl

end

/-- The all-off phases of one tick. -/
def gapPhases : List PhaseCode := [Phase.gap3, Phase.gap2, Phase.gap1, Phase.gapDp]

/-- PHASE and the hold count are those of frame tick `n`. -/
structure State.AtTick (s : State) (n : Nat) : Prop where
  frame : 0x2 ≤ s.phase.toNat ∧ s.phase.toNat ≤ 0xA
  lit : ∀ next, GapAfter s.phase next → phaseStart s.block s.disp.toNat s.phase ≤ n ∧
    n + s.hc.toNat + 1 = phaseStart s.block s.disp.toNat next
  gap : s.phase ∈ gapPhases → n = phaseStart s.block s.disp.toNat s.phase
  pad : s.phase = Phase.pad → phaseStart s.block s.disp.toNat Phase.pad ≤ n

theorem State.AtTick.advance {s : State} {n : Nat} (h : s.AtTick n) : s.advance.AtTick n :=
  ⟨h.frame, h.lit, h.gap, h.pad⟩

theorem GapAfter.unique {c next next' : PhaseCode} (h : GapAfter c next) (h' : GapAfter c next') : next = next' := by
  cases h <;> cases h' <;> rfl

/-- A lit phase is no gap and not PAD; the phase after it is a gap. -/
theorem GapAfter.gap {c next : PhaseCode} (h : GapAfter c next) : c ∉ gapPhases ∧ c ≠ Phase.pad ∧ next ∈ gapPhases := by
  cases h <;> decide

theorem not_gapAfter_of_mem {c : PhaseCode} (hc : c ∈ Phase.pad :: gapPhases) (next : PhaseCode) : ¬ GapAfter c next :=
  fun h => (List.mem_cons.mp hc).elim h.gap.2.1 h.gap.1

theorem gapPhases_range : ∀ c ∈ gapPhases, (0x2 ≤ c.toNat ∧ c.toNat ≤ 0xA) ∧ c ≠ Phase.pad := by decide

theorem atTick_of_lit {s : State} {n : Nat} {c next : PhaseCode} (hgap : GapAfter c next) (hphase : s.phase = c)
    (hfrom : phaseStart s.block s.disp.toNat c ≤ n)
    (hhold : n + s.hc.toNat + 1 = phaseStart s.block s.disp.toNat next) : s.AtTick n := by
  subst hphase
  exact ⟨hgap.phases.2, fun next' hgap' => ⟨hfrom, hgap.unique hgap' ▸ hhold⟩, fun h => absurd h hgap.gap.1,
    fun h => absurd h hgap.gap.2.1⟩

theorem atTick_of_gap {s : State} {n : Nat} {c : PhaseCode} (hc : c ∈ gapPhases) (hphase : s.phase = c)
    (hn : n = phaseStart s.block s.disp.toNat c) : s.AtTick n := by
  subst hphase
  obtain ⟨hrange, hpad⟩ := gapPhases_range _ hc
  exact ⟨hrange, fun _ h => absurd h (not_gapAfter_of_mem (List.mem_cons_of_mem _ hc) _), fun _ => hn,
    fun h => absurd h hpad⟩

theorem atTick_of_pad {s : State} {n : Nat} (hphase : s.phase = Phase.pad)
    (hn : phaseStart s.block s.disp.toNat Phase.pad ≤ n) : s.AtTick n :=
  ⟨by rw [hphase]; decide, fun _ h => absurd h (hphase ▸ not_gapAfter_of_mem (List.mem_cons_self ..) _),
    fun h => absurd hphase (gapPhases_range _ h).2, fun _ => hn⟩

/-- A frame begins in tick 1 with position 3 lit. -/
theorem State.startFrame_atTick (s : State) : s.startFrame.AtTick 1 := by
  refine atTick_of_lit .lit3 s.startFrame_phase (Nat.le_refl 1) ?_
  have hhc := s.startFrame_hc_toNat
  rw [State.startFrame_block, State.startFrame_disp]
  show _ = digitTicks s.block (rangeSelect s.disp.toNat).1 + 1
  rw [digitTicks]
  omega

/-- GAP_LOAD begins the lit phase of the next position in the tick after its gap. -/
theorem State.loadNext_atTick {s : State} {n : Nat} (hat : s.AtTick n) (hshows : s.FrameShows) {c next : PhaseCode}
    {p : Position} (hload : LoadAfter c p next) (hphase : s.phase = c) : (s.loadNext p next).AtTick (n + 1) := by
  have hhc := s.loadNext_hc_toNat p next
  have hgap : n = phaseStart s.block s.disp.toNat c := hphase ▸ hat.gap (by rw [hphase]; cases hload <;> decide)
  cases hload with
  | gap3 =>
    refine atTick_of_lit .lit2 (s.loadNext_phase ..) ?_ ?_ <;> rw [State.loadNext_block, State.loadNext_disp]
    · rw [phaseStart_lit2, hgap]
    · rw [Nat.add_assoc, hhc, hshows.restTwo (.inr hphase), hgap, phaseStart_gap2, phaseStart_lit2, digitTicks]
  | gap2 =>
    refine atTick_of_lit .lit1 (s.loadNext_phase ..) ?_ ?_ <;> rw [State.loadNext_block, State.loadNext_disp]
    · rw [phaseStart_lit1, hgap]
    · rw [Nat.add_assoc, hhc, hshows.restOne (.inr hphase), hgap, phaseStart_gap1, phaseStart_lit1, digitTicks]

/-- At the end of a frame all the work is done but for the tick itself. -/
theorem State.AtTick.work_le_of_end {s : State} {n : Nat} (hat : s.AtTick n)
    (h : s.phase = Phase.gapDp ∨ s.phase = Phase.pad) : frameWork s.block s.disp.toNat ≤ n + 1 := by
  rcases h with h | h
  · have hn := hat.gap (by rw [h]; decide)
    rw [hn, h]
    exact Nat.le_refl _
  · exact Nat.le_succ_of_le (hat.pad h)

/-- Before its last tick a frame goes on as the phases stand: every path leads to the place of the next frame tick. -/
theorem State.Tick.atTick {s u : State} {n : Nat} (htick : s.Tick u) (hat : s.AtTick n) (hshows : s.FrameShows)
    (hft : s.ft.toNat = min n 10000) (hn : n + 1 < frameLength s.block s.disp.toNat) : u.AtTick (n + 1) := by
  cases htick with
  | wait h | take h | complete h | setup h => exact absurd hat.frame.1 (by rw [h]; decide)
  | recover h => exact absurd hat.frame.2 (Nat.not_le_of_lt h)
  | holdOn hgap h hrest =>
    subst h
    obtain ⟨hfrom, hhold⟩ := hat.lit _ hgap
    refine atTick_of_lit (s := { s.clearBd.tickFrame with hc := s.hc - 1 }) hgap rfl (Nat.le_succ_of_le hfrom) ?_
    refine Eq.trans ?_ hhold
    dsimp only
    bv_omega
  | holdLast hgap h hlast =>
    subst h
    obtain ⟨_, hhold⟩ := hat.lit _ hgap
    refine atTick_of_gap hgap.gap.2.2 (State.goto_phase ..) (Eq.trans ?_ hhold)
    rw [hlast]
    rfl
  | gapLoad hload h => exact State.loadNext_atTick hat hshows hload h
  | gapPoint h =>
    have hgap := hat.gap (by rw [h]; decide)
    have hhc := Block.pointHold_toNat s.block
    rw [h] at hgap
    refine atTick_of_lit .litDp rfl (hgap ▸ Nat.le_refl _) ?_
    show n + 1 + _ + 1 = phaseStart s.block s.disp.toNat Phase.gapDp
    rw [Nat.add_assoc, hhc, phaseStart_gapDp, phaseStart_litDp, hgap]
  | deadline h hft' =>
    have hwork := hat.work_le_of_end h
    rw [frameLength, Config.frameUs_eq] at hn
    omega
  | padding h hft' => exact atTick_of_pad (State.goto_phase ..) (hat.work_le_of_end h)

/- ==== The table, row by row (R165) ==== -/

section
variable {b : Block} {disp j : Nat}

theorem timeline_of_lit3 (hfrom : phaseStart b disp Phase.lit3 ≤ j) (hto : j < phaseStart b disp Phase.gap3) :
    timeline b disp j = (Phase.lit3, 0b100, ~~~(patRom b (digitCode (rangeSelect disp).1)).seg) := by
  rw [phaseStart_lit3] at hfrom
  rw [phaseStart_gap3] at hto
  simp only [timeline]
  rw [if_neg (by omega), if_pos (by omega)]

theorem timeline_of_gap3 (hat : j = phaseStart b disp Phase.gap3) : timeline b disp j = (Phase.gap3, 0b000, 0xFF) := by
  rw [phaseStart_gap3] at hat
  simp only [timeline]
  rw [if_neg (by omega), if_neg (by omega), if_pos (by omega)]

theorem timeline_of_lit2 (hfrom : phaseStart b disp Phase.lit2 ≤ j) (hto : j < phaseStart b disp Phase.gap2) :
    timeline b disp j = (Phase.lit2, 0b010, ~~~(patRom b (digitCode ((rangeSelect disp).1 / 10))).seg) := by
  rw [phaseStart_lit2, phaseStart_gap3] at hfrom
  rw [phaseStart_gap2, phaseStart_lit2, phaseStart_gap3] at hto
  simp only [timeline]
  rw [if_neg (by omega), if_neg (by omega), if_neg (by omega), if_pos (by omega)]

theorem timeline_of_gap2 (hat : j = phaseStart b disp Phase.gap2) : timeline b disp j = (Phase.gap2, 0b000, 0xFF) := by
  rw [phaseStart_gap2, phaseStart_lit2, phaseStart_gap3] at hat
  simp only [timeline]
  rw [if_neg (by omega), if_neg (by omega), if_neg (by omega), if_neg (by omega), if_pos (by omega)]

theorem timeline_of_lit1 (hfrom : phaseStart b disp Phase.lit1 ≤ j) (hto : j < phaseStart b disp Phase.gap1) :
    timeline b disp j = (Phase.lit1, 0b001, ~~~(patRom b (digitCode ((rangeSelect disp).1 / 100))).seg) := by
  simp only [phaseStart_gap1, phaseStart_lit1, phaseStart_gap2, phaseStart_lit2, phaseStart_gap3] at hfrom hto
  simp only [timeline]
  iterate 5 rw [if_neg (by omega)]
  rw [if_pos (by omega)]

theorem timeline_of_gap1 (hat : j = phaseStart b disp Phase.gap1) : timeline b disp j = (Phase.gap1, 0b000, 0xFF) := by
  simp only [phaseStart_gap1, phaseStart_lit1, phaseStart_gap2, phaseStart_lit2, phaseStart_gap3] at hat
  simp only [timeline]
  iterate 6 rw [if_neg (by omega)]
  rw [if_pos (by omega)]

theorem timeline_of_litDp (hfrom : phaseStart b disp Phase.litDp ≤ j) (hto : j < phaseStart b disp Phase.gapDp) :
    timeline b disp j = (Phase.litDp, (dpOnehot (rangeSelect disp).2).1, 0x7F) := by
  simp only [phaseStart_gapDp, phaseStart_litDp, phaseStart_gap1, phaseStart_lit1, phaseStart_gap2, phaseStart_lit2,
    phaseStart_gap3] at hfrom hto
  simp only [timeline]
  iterate 7 rw [if_neg (by omega)]
  rw [if_pos (by omega)]

theorem timeline_of_gapDp (hat : j = phaseStart b disp Phase.gapDp) : timeline b disp j = (Phase.gapDp, 0b000, 0xFF) := by
  simp only [phaseStart_gapDp, phaseStart_litDp, phaseStart_gap1, phaseStart_lit1, phaseStart_gap2, phaseStart_lit2,
    phaseStart_gap3] at hat
  simp only [timeline]
  iterate 8 rw [if_neg (by omega)]
  rw [if_pos (by omega)]

theorem timeline_of_pad (hfrom : phaseStart b disp Phase.pad ≤ j) : timeline b disp j = (Phase.pad, 0b000, 0xFF) := by
  simp only [phaseStart_pad, phaseStart_gapDp, phaseStart_litDp, phaseStart_gap1, phaseStart_lit1, phaseStart_gap2,
    phaseStart_lit2, phaseStart_gap3] at hfrom
  simp only [timeline]
  iterate 9 rw [if_neg (by omega)]

end

/-- The phases of a frame in the order of their shapes: lit, a gap, PAD. -/
theorem frame_phase_cases : ∀ c : PhaseCode, 0x2 ≤ c.toNat ∧ c.toNat ≤ 0xA →
    (c = Phase.lit3 ∨ c = Phase.lit2 ∨ c = Phase.lit1 ∨ c = Phase.litDp) ∨
    (c = Phase.gap3 ∨ c = Phase.gap2 ∨ c = Phase.gap1 ∨ c = Phase.gapDp) ∨ c = Phase.pad := by decide

/-- In frame tick `n` the phase and the display lines are those of the table (R165). -/
theorem State.AtTick.timeline {s : State} {n : Nat} (hat : s.AtTick n) (hdisplay : s.DisplayInv) (hshows : s.FrameShows) :
    (s.phase, s.outputs.dig, s.outputs.segN) = Machine.timeline s.block s.disp.toNat n := by
  have hlit {c next : PhaseCode} (hgap : GapAfter c next) (h : s.phase = c) :
      phaseStart s.block s.disp.toNat c ≤ n ∧ n < phaseStart s.block s.disp.toNat next := by
    subst h
    obtain ⟨hfrom, hhold⟩ := hat.lit next hgap
    exact ⟨hfrom, by omega⟩
  have hdark {c : PhaseCode} (hc : c ∈ darkPhases) (h : s.phase = c) :
      (s.phase, s.outputs.dig, s.outputs.segN) = (c, 0b000#3, 0xFF#8) := by
    obtain ⟨hdig, hseg⟩ := hdisplay.dark_of_phase (h ▸ hc)
    obtain ⟨hoff, hnone⟩ := State.outputs_dark hdig hseg
    rw [h, hoff, hnone]
  rw [State.outputs_dig, State.outputs_segN] at *
  rcases frame_phase_cases s.phase hat.frame with (h | h | h | h) | (h | h | h | h) | h
  · obtain ⟨hfrom, hto⟩ := hlit .lit3 h
    obtain ⟨hdig, hseg⟩ := hshows.third h
    rw [timeline_of_lit3 hfrom hto, h, hdig, hseg]
  · obtain ⟨hfrom, hto⟩ := hlit .lit2 h
    obtain ⟨hdig, hseg⟩ := hshows.second h
    rw [timeline_of_lit2 hfrom hto, h, hdig, hseg]
  · obtain ⟨hfrom, hto⟩ := hlit .lit1 h
    obtain ⟨hdig, hseg⟩ := hshows.first h
    rw [timeline_of_lit1 hfrom hto, h, hdig, hseg]
  · obtain ⟨hfrom, hto⟩ := hlit .litDp h
    obtain ⟨hdig, hseg⟩ := hshows.point h
    rw [timeline_of_litDp hfrom hto, h, hdig, hseg]
    rfl
  · exact (hdark (by decide) h).trans (timeline_of_gap3 (h ▸ hat.gap (by rw [h]; decide))).symm
  · exact (hdark (by decide) h).trans (timeline_of_gap2 (h ▸ hat.gap (by rw [h]; decide))).symm
  · exact (hdark (by decide) h).trans (timeline_of_gap1 (h ▸ hat.gap (by rw [h]; decide))).symm
  · exact (hdark (by decide) h).trans (timeline_of_gapDp (h ▸ hat.gap (by rw [h]; decide))).symm
  · exact (hdark (by decide) h).trans (timeline_of_pad (hat.pad h)).symm

/- ==== The frame as a run (R162, R165) ==== -/

/-- The state stands in frame tick `n` of the frame that shows `disp`, in every respect: the place, the frame's timer, and
what is shown. -/
structure State.InFrame (s : State) (b : Block) (disp : BitVec 14) (n : Nat) : Prop where
  block : s.block = b
  disp : s.disp = disp
  display : s.DisplayInv
  shows : s.FrameShows
  timer : s.ft.toNat = min n 10000
  place : s.AtTick n

/-- Every tick of a frame but the last leads to the next. -/
theorem State.InFrame.tick {s u : State} {b : Block} {disp : BitVec 14} {n : Nat} (h : s.InFrame b disp n)
    (htick : s.Tick u) (hdisp : disp.toNat ≤ 9999) (hn : n + 1 < frameLength b disp.toNat) :
    u.advance.InFrame b disp (n + 1) := by
  obtain ⟨rfl, rfl, hdisplay, hshows, htimer, hplace⟩ := h
  have hphase : s.phase ≠ Phase.sample := fun hs => absurd hplace.frame.1 (by rw [hs]; decide)
  have hkeep := (htick.keepsFilter hphase).1
  have hft : u.ft = s.tickFrame.ft := by
    cases htick with
    | wait h | take h | complete h => exact absurd h hphase
    | setup h => exact absurd hplace.frame.1 (by rw [h]; decide)
    | recover h => exact absurd hplace.frame.2 (Nat.not_le_of_lt h)
    | gapLoad => exact s.loadNext_ft _ _
    | _ => rfl
  refine ⟨hkeep.block, hkeep.disp, (htick.displayInv hdisplay).congr rfl rfl rfl rfl,
    (htick.frameShows hdisp hshows).congr rfl rfl rfl rfl rfl rfl rfl, ?timer, ?place⟩
  case timer =>
    rw [State.advance_ft, hft, s.tickFrame_ft_toNat, htimer]
    omega
  case place => exact (htick.atTick hplace hshows htimer hn).advance

/-- SETUP's tick leads to frame tick 1. -/
theorem State.startFrame_inFrame {s : State} (hphase : s.phase = Phase.setup) (hdisplay : s.DisplayInv) :
    s.startFrame.advance.InFrame s.block s.disp 1 := by
  have htick : s.Tick s.startFrame := .setup hphase
  exact ⟨s.startFrame_block, s.startFrame_disp, (htick.displayInv hdisplay).congr rfl rfl rfl rfl,
    s.startFrame_frameShows.congr rfl rfl rfl rfl rfl rfl rfl,
    congrArg BitVec.toNat s.startFrame_ft, s.startFrame_atTick.advance⟩

/-- Settles O53: frame tick 0 is the SETUP tick itself, and from tick 1 on `State.InFrame` holds along the run. -/
theorem frameTimeline : Obligations.FrameTimeline := by
  intro n s hphase hseg hdig hdisp hruns hn
  have hdisplay : s.DisplayInv := displayInv_of_dark hphase (by decide) hdig hseg fun hle => absurd hle (by decide)
  cases n with
  | zero =>
    refine ⟨s, rfl, ?_, fun h => absurd h (by decide)⟩
    obtain ⟨hoff, hnone⟩ := State.outputs_dark hdig hseg
    rw [hphase, hoff, hnone]
    rfl
  | succ n =>
    have hstep := (State.Tick.setup hphase).step_eq (hruns 0 n.succ_pos)
    obtain ⟨t, hrun, ht⟩ := run_ticks (P := fun j t => t.InFrame s.block s.disp (j + 1)) (hruns.tail hstep)
      (State.startFrame_inFrame hphase hdisplay) fun j hj t u ht htick => ht.tick htick hdisp (by omega)
    refine ⟨t, (run_succ n hstep).trans hrun, ?_, fun _ => ht.timer⟩
    rw [ht.place.timeline ht.display ht.shows, ht.block, ht.disp]

end Sys2Proof.Machine
end

section
/-! PROOFS. One iteration of the block (spec/44_sequencer.md R230, R231, R234; spec/42_multiplexer.md R166) and the words of
a script (spec/30_encoding.md R92, R93): both count their ticks by the closed form of the ticks to SAMPLE. -/

namespace Sys2Proof.Machine

/- ==== From a frame back to SAMPLE ==== -/

/-- A frame comes back to SAMPLE at its deadline or later: the timer is saturated (R163, R164). -/
theorem State.Tick.timer_of_sample {s u : State} (htick : s.Tick u) (hs : s.phase ≠ Phase.sample)
    (hrange : s.phase.toNat ≤ 0xA) (hu : u.phase = Phase.sample) : u.ft.toNat = 10000 := by
  have hne {c : PhaseCode} (hc : 0x2 ≤ c.toNat) (hphase : u.phase = c) : u.ft.toNat = 10000 := by
    rw [← hphase, hu] at hc
    exact absurd hc (by decide)
  cases htick with
  | wait h | take h | complete h => exact absurd h hs
  | setup => exact hne (c := Phase.lit3) (by decide) rfl
  | gapPoint => exact hne (c := Phase.litDp) (by decide) rfl
  | padding => exact hne (c := Phase.pad) (by decide) rfl
  | holdOn => exact absurd hu hs
  | holdLast hgap => exact hne (gapPhases_range _ hgap.gap.2.2).1.1 rfl
  | gapLoad hload => exact hne (by cases hload <;> decide) (State.loadNext_phase ..)
  | deadline _ hft =>
    rw [State.goto_ft, State.tickFrame_ft_toNat, State.clearBd_ft]
    omega
  | recover h => exact absurd hrange (Nat.not_le_of_lt h)

/-- Ticks from outside SAMPLE, as many as are missing or fewer: the filter stays, and SAMPLE is met with the timer
saturated. -/
theorem run_toward_sample {f : State} {n : Nat} (hf : f.Inv) (hphase : f.phase ≠ Phase.sample) (hruns : f.RunsFor n)
    (hn : n ≤ f.ticksToSample) :
    ∃ t, Host.Core.run core n f = .next t ∧ t.ticksToSample + n = f.ticksToSample ∧ f.KeepsFilter t ∧ t.Inv ∧
      (t.phase = Phase.sample → t.ft.toNat = 10000) := by
  refine run_ticks (P := fun j t => t.ticksToSample + j = f.ticksToSample ∧ f.KeepsFilter t ∧ t.Inv ∧
    (t.phase = Phase.sample → t.ft.toNat = 10000)) hruns ⟨rfl, f.keepsFilter_refl, hf, (absurd · hphase)⟩ ?_
  rintro j hj t u ⟨hticks, hkeep, hinv, _⟩ htick
  have ht : t.phase ≠ Phase.sample := fun h => by
    have hzero := t.ticksToSample_eq_zero_iff.mpr h
    omega
  have hnearer := htick.ticksToSample ht
  refine ⟨?_, hkeep.trans ((htick.keepsFilter ht).1.trans u.keepsFilter_advance), (htick.inv hinv).advance,
    htick.timer_of_sample ht hinv.phaseRange⟩
  rw [State.advance_ticksToSample]
  omega

theorem State.RunsFor.mono {s : State} {m n : Nat} (h : s.RunsFor n) (hmn : m ≤ n) : s.RunsFor m :=
  fun j hj => h j (Nat.lt_of_lt_of_le hj hmn)

/-- A transfer leaves SETUP (R231). -/
theorem step_of_transfers {s f : State} (htransfers : s.transfers = true) (hstep : step s = .next f) :
    f.phase = Phase.setup := by
  obtain ⟨hrun, hvalid, hphase⟩ := s.transfers_iff.mp htransfers
  by_cases hcnt : s.cnt.toNat = 31
  · cases ((State.Tick.complete hphase hvalid hcnt).step_eq hrun).symm.trans hstep
    rfl
  · cases ((State.Tick.take hphase hvalid hcnt).step_eq hrun).symm.trans hstep
    rfl

/-- Settles O54: after the transfer the closed form is the frame length, and `run_toward_sample` counts it down. -/
theorem iterationIsOneSampleAndOneFrame : Obligations.IterationIsOneSampleAndOneFrame := by
  intro s f hs htransfers hstep hruns
  have hf : f.Inv := stepKeepsTheReachableInvariant s f hs hstep
  have hsetup : f.phase = Phase.setup := step_of_transfers htransfers hstep
  have hphase : f.phase ≠ Phase.sample := by rw [hsetup]; decide
  have hticks : f.ticksToSample = frameLength f.block f.disp.toNat := State.ticksToSample_of_setup hsetup
  rw [Nat.add_comm] at hruns ⊢
  have hfruns := hruns.tail hstep
  rw [← hticks] at hfruns ⊢
  refine ⟨fun j hpos hj => ?during, ?afterwards⟩
  case during =>
    obtain ⟨k, rfl⟩ := Nat.exists_eq_add_of_lt hpos
    rw [Nat.zero_add] at hj ⊢
    obtain ⟨u, hrun, hleft, _⟩ := run_toward_sample hf hphase (hfruns.mono (Nat.le_of_succ_le hj)) (Nat.le_of_succ_le hj)
    refine ⟨u, (run_succ k hstep).trans hrun, Bool.eq_false_iff.mpr fun hreq => ?_⟩
    have hzero := u.ticksToSample_eq_zero_iff.mpr (u.outputs_adcReq_iff.mp hreq)
    omega
  case afterwards =>
    obtain ⟨t, hrun, hleft, hkeep, hinv, hft⟩ := run_toward_sample hf hphase hfruns (Nat.le_refl _)
    have hsample : t.phase = Phase.sample := t.ticksToSample_eq_zero_iff.mp (by omega)
    obtain ⟨hseg, hdig⟩ := hinv.dark_of_not_lit (State.not_lit_of_phase hsample (by decide))
    exact ⟨t, (run_succ _ hstep).trans hrun, t.outputs_adcReq_iff.mpr hsample, hseg, hdig, hft hsample, hkeep.acc,
      hkeep.cnt, hkeep.dec, hkeep.vmv, hkeep.disp, hkeep.ovf, hkeep.lastSum⟩

/- ==== Stimulus words (R92) ==== -/

/-- Putting a vector in front of another of `m` bits shifts it by `m`. -/
theorem append_toNat {n m : Nat} (x : BitVec n) (y : BitVec m) : (x ++ y).toNat = x.toNat * 2 ^ m + y.toNat := by
  rw [BitVec.toNat_append, ← Nat.shiftLeft_add_eq_or_of_lt y.isLt, Nat.shiftLeft_eq]

/-- The bits of a stimulus word: the sample below bit 10, `adc_valid` at bit 10, `rst` at bit 11 (R92). -/
theorem stimWord_getLsbD (rst valid : Bool) (data : Sample) (i : Nat) :
    (stimWord rst valid data).getLsbD i =
      if i < 10 then (if valid then data else 0#10).getLsbD i
      else if i - 10 < 1 then (BitVec.ofBool valid).getLsbD (i - 10) else (BitVec.ofBool rst).getLsbD (i - 10 - 1) :=
  BitVec.getLsbD_append.trans (by rw [BitVec.getLsbD_append])

/-- The value of a stimulus word: each part counts by the place where it stands. -/
theorem stimWord_toNat (rst valid : Bool) (data : Sample) :
    (stimWord rst valid data).toNat =
      ((BitVec.ofBool rst).toNat * 2 ^ 1 + (BitVec.ofBool valid).toNat) * 2 ^ 10 + (if valid then data else 0#10).toNat :=
  (append_toNat _ _).trans (by rw [append_toNat])

/-- Settles O55: the inputs by the word's bits, its value by its parts. -/
theorem stimulusWordRoundTrip : Obligations.StimulusWordRoundTrip := by
  intro rst valid data
  have hrst : (stimWord rst valid data).getLsbD 11 = rst := by rw [stimWord_getLsbD]; simp
  have hvalid : (stimWord rst valid data).getLsbD 10 = valid := by rw [stimWord_getLsbD]; simp
  have hdata : (stimWord rst valid data).extractLsb' 0 10 = if valid then data else 0 := by
    refine BitVec.eq_of_getLsbD_eq fun i hi => ?_
    rw [BitVec.getLsbD_extractLsb', Nat.zero_add, decide_eq_true hi, Bool.true_and, stimWord_getLsbD, if_pos hi]
    rfl
  constructor
  · rw [StimWord.inputs, hrst, hvalid, hdata]
  · rw [stimWord_toNat, BitVec.toNat_ofBool, BitVec.toNat_ofBool, apply_ite BitVec.toNat]
    show _ + (if valid then data.toNat else 0) = _
    omega

/- ==== Script directives (R93) ==== -/

theorem State.keepsFilter_withStim (s : State) (ws : List Inputs) : s.KeepsFilter (s.withStim ws) :=
  ⟨⟨rfl, rfl, rfl, rfl, rfl, rfl⟩, rfl, rfl⟩

/-- A word without reset moves the state along the path that its inputs choose. -/
theorem afterWord_of_tick {s u : State} {w : StimWord} (hrun : w.inputs.running = true)
    (htick : (s.withStim (w.inputs :: s.stim)).Tick u) : s.afterWord w = u.advance := by
  have hstep : step { s with stim := w.inputs :: s.stim } = .next u.advance := htick.step_eq hrun
  rw [State.afterWord, hstep]

/-- As many words without reset as the closed form counts end in SAMPLE, and the filter stays. -/
theorem afterWords_ticksToSample {w : StimWord} (hrun : w.inputs.running = true) : ∀ {n : Nat} {s : State},
    s.ticksToSample = n →
    (s.afterWords (List.replicate n w)).phase = Phase.sample ∧ s.KeepsFilter (s.afterWords (List.replicate n w))
  | 0, s, hn => ⟨s.ticksToSample_eq_zero_iff.mp hn, s.keepsFilter_refl⟩
  | n + 1, s, hn => by
    have hphase : s.phase ≠ Phase.sample := fun h => by
      have hzero := s.ticksToSample_eq_zero_iff.mpr h
      omega
    obtain ⟨u, htick⟩ := (s.withStim (w.inputs :: s.stim)).exists_tick
    have hnearer : u.ticksToSample + 1 = s.ticksToSample := htick.ticksToSample hphase
    have hword := afterWord_of_tick hrun htick
    have hkeep : s.KeepsFilter u := (s.keepsFilter_withStim _).trans (htick.keepsFilter hphase).1
    obtain ⟨hsample, hrest⟩ := afterWords_ticksToSample hrun (n := n) (s := u.advance) (by
      rw [State.advance_ticksToSample]
      omega)
    have hwords : s.afterWords (List.replicate (n + 1) w) = u.advance.afterWords (List.replicate n w) := by
      rw [List.replicate_succ, State.afterWords, List.foldl_cons, hword]
      rfl
    rw [hwords]
    exact ⟨hsample, (hkeep.trans u.keepsFilter_advance).trans hrest⟩

theorem stimWord_sample_inputs (v : Sample) :
    (stimWord false true v).inputs = { ce := true, rst := false, adcValid := true, adcData := v } :=
  (stimulusWordRoundTrip false true v).1

/-- The word that offers a sample in SAMPLE transfers it. -/
theorem afterWord_sample {s : State} (v : Sample) (hphase : s.phase = Phase.sample) :
    (s.afterWord (stimWord false true v)).phase = Phase.setup ∧
    (s.afterWord (stimWord false true v)).cnt.toNat = (s.cnt.toNat + 1) % 32 ∧
    (s.acc.toNat + v.toNat < 2 ^ 15 →
      (s.cnt.toNat ≠ 31 → (s.afterWord (stimWord false true v)).acc.toNat = s.acc.toNat + v.toNat) ∧
      (s.cnt.toNat = 31 → (s.afterWord (stimWord false true v)).acc = 0 ∧
        (s.afterWord (stimWord false true v)).lastSum.toNat = s.acc.toNat + v.toNat)) := by
  have hin := stimWord_sample_inputs v
  have hrun : (stimWord false true v).inputs.running = true := by rw [hin]; rfl
  have hvalid : (s.withStim ((stimWord false true v).inputs :: s.stim)).inputs.adcValid = true := by rw [hin]; rfl
  have hdata : (s.withStim ((stimWord false true v).inputs :: s.stim)).inputs.adcData = v := by rw [hin]; rfl
  have hsum := State.feedSum_toNat (s.withStim ((stimWord false true v).inputs :: s.stim))
  rw [hdata] at hsum
  by_cases hcnt : s.cnt.toNat = 31
  · rw [afterWord_of_tick hrun (.complete hphase hvalid hcnt), hcnt]
    exact ⟨rfl, rfl, fun hfits => ⟨fun hne => absurd rfl hne, fun _ => ⟨rfl, hsum hfits⟩⟩⟩
  · have hlt := s.cnt.isLt
    rw [afterWord_of_tick hrun (.take hphase hvalid hcnt)]
    refine ⟨rfl, (count_succ_toNat hcnt).trans (by omega), fun hfits => ⟨fun _ => hsum hfits, fun h => absurd h hcnt⟩⟩

/-- Settles O56: the words but the last of `sample v`, and all words of `frame`, lead to SAMPLE with the filter as it was. -/
theorem scriptDirectivesReachTheirEnd : Obligations.ScriptDirectivesReachTheirEnd := by
  intro s v
  refine ⟨?sample, ?frame⟩
  case sample =>
    have hrun : (stimWord false true v).inputs.running = true := by rw [stimWord_sample_inputs]; rfl
    obtain ⟨hphase, hkeep⟩ := afterWords_ticksToSample hrun (s := s) rfl
    have hwords : s.afterWords ((Directive.sample v).words s) =
        (s.afterWords (List.replicate s.ticksToSample (stimWord false true v))).afterWord (stimWord false true v) := by
      rw [Directive.words, List.replicate_succ', State.afterWords, List.foldl_append]
      rfl
    rw [hwords, ← hkeep.acc, ← hkeep.cnt]
    exact afterWord_sample v hphase
  case frame =>
    obtain ⟨hphase, hkeep⟩ := afterWords_ticksToSample (w := 0x000#12) rfl (s := s) rfl
    exact ⟨hphase, hkeep.cnt, hkeep.acc⟩

end Sys2Proof.Machine
end

section
/-! PROOFS. The decoder and the step around an operation (spec/30_encoding.md R80 to R84, R91, R92): encode and decode are
inverse, as a selector, as the byte that holds it and as a placed fetch word. -/

namespace Sys2Proof

/- ==== Decode and encode (R80, R83, R84) ==== -/

theorem decode_encode (i : Instr) : decode (encode i) = i := by
  cases i with
  | reset v p => revert v p; decide
  | recoverCF v low => revert v low; decide
  | sampleWait | feed => rfl
  | setup v | holdLit3 v | gapLoadGap3 v | holdLit2 v | gapLoadGap2 v | holdLit1 v | gapDp v | holdDp v | gapEnd v | pad v
  | recoverB v => cases v <;> rfl

theorem encode_decode : ∀ w : Selector, encode (decode w) = w := by decide

/-- An operation's selector is in its row, whatever the operands. -/
theorem row_matches_encode (i : Instr) : i.row.matches (encode i) = true := by
  cases i with
  | reset v p => exact Laws.RowFixedBits.reset v p
  | sampleWait => exact Laws.RowFixedBits.sampleWait
  | feed => exact Laws.RowFixedBits.feed
  | setup v => exact Laws.RowFixedBits.setup v
  | holdLit3 v => exact Laws.RowFixedBits.holdLit3 v
  | gapLoadGap3 v => exact Laws.RowFixedBits.gapLoadGap3 v
  | holdLit2 v => exact Laws.RowFixedBits.holdLit2 v
  | gapLoadGap2 v => exact Laws.RowFixedBits.gapLoadGap2 v
  | holdLit1 v => exact Laws.RowFixedBits.holdLit1 v
  | gapDp v => exact Laws.RowFixedBits.gapDp v
  | holdDp v => exact Laws.RowFixedBits.holdDp v
  | gapEnd v => exact Laws.RowFixedBits.gapEnd v
  | pad v => exact Laws.RowFixedBits.pad v
  | recoverB v => exact Laws.RowFixedBits.recoverB v
  | recoverCF v low => exact Laws.RowFixedBits.recoverCF v low

/-- The byte that holds a selector decodes to the selector's operation (log 15). -/
theorem decodeBytes_setWidth (w : Selector) : decodeBytes [w.setWidth 8] = .ok (decode w) := by
  have hlt : (w.setWidth 8).toNat < 64 := by
    rw [BitVec.toNat_setWidth]
    exact Nat.lt_of_le_of_lt (Nat.mod_le _ _) w.isLt
  have hback : (w.setWidth 8).setWidth 6 = w := by
    rw [BitVec.setWidth_setWidth_of_le _ (by decide), BitVec.setWidth_eq]
  rw [decodeBytes, if_pos hlt, hback]

theorem selector_mod (w : Selector) : w.toNat % 2 ^ 8 = w.toNat :=
  Nat.mod_eq_of_lt (Nat.lt_trans w.isLt (by decide))

/-- A word of the opcode table that is a selector decodes to the selector's operation. -/
theorem decodeTableWord_selector (w : Selector) : decodeTableWord 8 w.toNat = some (decode w) := by
  have hbyte : BitVec.ofNat 8 w.toNat = w.setWidth 8 :=
    BitVec.eq_of_toNat_eq (by rw [BitVec.toNat_ofNat, BitVec.toNat_setWidth])
  rw [decodeTableWord, selector_mod, if_pos (Nat.lt_trans w.isLt (by decide)), hbyte, decodeBytes_setWidth]
  rfl

/-- Settles O3: `decode_encode`, and the byte and the table word decode as the selector they hold. -/
theorem decodeInvertsEncode : Obligations.DecodeInvertsEncode := by
  intro i _
  refine ⟨decode_encode i, row_matches_encode i, ?_, ?_⟩
  · rw [decodeBytes_setWidth, decode_encode]
  · rw [decodeTableWord_selector, decode_encode]

/-- Settles O1: each of the written selectors is decoded. -/
theorem writtenSelectorsDecode : Obligations.WrittenSelectorsDecode := by
  unfold Obligations.WrittenSelectorsDecode
  decide

/-- The fifteen rows, each from an operation of its constructor. -/
def allRows : List Row :=
  [Instr.reset false 0, .sampleWait, .feed, .setup false, .holdLit3 false, .gapLoadGap3 false, .holdLit2 false,
    .gapLoadGap2 false, .holdLit1 false, .gapDp false, .holdDp false, .gapEnd false, .pad false, .recoverB false,
    .recoverCF false 0].map Instr.row

/-- A row does not depend on the operands of its operation. -/
theorem Instr.row_mem (i : Instr) : i.row ∈ allRows := by
  cases i <;> simp [allRows, Instr.row]

/-- A selector is in no row but that of the operation it decodes to. -/
theorem row_unique : ∀ w : Selector, ∀ r ∈ allRows, r.matches w = true → r = (decode w).row := by decide

/-- Settles O2: a selector is the encoding of what it decodes to, and the rows exclude each other. -/
theorem everySelectorHasExactlyOneRow : Obligations.EverySelectorHasExactlyOneRow := by
  intro w
  refine ⟨?_, encode_decode w, fun i hi => row_unique w i.row i.row_mem hi⟩
  conv => lhs; arg 2; rw [← encode_decode w]
  exact row_matches_encode (decode w)

end Sys2Proof

namespace Sys2Proof.Machine

/- ==== The step around an operation (R80, R81) ==== -/

/-- On an active edge the step is the selected operation, with the edge's input word used up. -/
theorem step_of_active {s t : State} (h : s.inputs.active = true) (hexec : exec s.operation s = .next t) :
    step s = .next t.advance := by
  rw [step, if_pos h, hexec]

/-- An operation leaves the environment to the step: what the edge uses up is the state's own first word. -/
theorem advance_of_exec {i : Instr} {s t : State} (hexec : exec i s = .next t) :
    t.advance = { t with stim := s.stim.tail, edge := s.edge + 1 } := by
  obtain ⟨hstim, hedge⟩ := exec_environment hexec
  rw [State.advance, hstim, hedge]

/-- Settles O4: the selected operation answers (`exec_total`), and the step is its answer. -/
theorem stepRunsSelectedOperation : Obligations.StepRunsSelectedOperation := by
  rintro s i hactive rfl
  obtain ⟨t, hexec⟩ := exec_total s.operation s
  exact ⟨t, hexec, advance_of_exec hexec ▸ step_of_active (Bool.or_eq_true_iff.mpr hactive) hexec⟩

/-- Settles O5, by `step_of_not_active`. -/
theorem edgeWithoutTickChangesNoRegister : Obligations.EdgeWithoutTickChangesNoRegister := by
  intro s hce hrst
  exact step_of_not_active (by rw [Inputs.active, hce, hrst]; decide)

/-- A selector is packed from its own parts. -/
theorem pack_parts : ∀ w : Selector, Selector.pack w.rst w.valid w.phase = w := by decide

/-- A placed selector is the one the next step forms. -/
theorem withFetchWord_operation (s : State) (w : Selector) : (s.withFetchWord 8 w.toNat).operation = decode w := by
  have hw : BitVec.ofNat 6 (w.toNat % 2 ^ 8) = w := by rw [selector_mod, BitVec.ofNat_toNat, BitVec.setWidth_eq]
  have hselector : (s.withFetchWord 8 w.toNat).selector = w := by
    show Selector.pack (Selector.rst (BitVec.ofNat 6 (w.toNat % 2 ^ 8))) (Selector.valid (BitVec.ofNat 6 (w.toNat % 2 ^ 8)))
      (Selector.phase (BitVec.ofNat 6 (w.toNat % 2 ^ 8))) = w
    rw [hw, pack_parts]
  rw [State.operation, hselector]

/-- Settles O7: the placed word has `ce = 1`, its operation is the one encoded, and it is the word the edge uses up. -/
theorem placedSelectorIsRunNext : Obligations.PlacedSelectorIsRunNext := by
  intro s t i hexec
  have hop : (s.withFetchWord 8 (encode i).toNat).operation = i := by rw [withFetchWord_operation, decode_encode]
  have hstep := step_of_active (s := s.withFetchWord 8 (encode i).toNat) rfl (by rw [hop]; exact hexec)
  rw [hstep, advance_of_exec hexec]
  rfl

/-- No operation writes the configuration (R41, R70). -/
theorem exec_block {i : Instr} {s t : State} (h : exec i s = .next t) : t.block = s.block := by
  by_cases hfeed : i = .feed
  · subst hfeed
    rcases execFeed_cases s with ⟨_, hexec⟩ | ⟨_, hexec⟩ <;> cases hexec.symm.trans h <;> rfl
  by_cases hreset : ∃ v p, i = .reset v p
  · obtain ⟨v, p, rfl⟩ := hreset
    cases (exec_reset v p s).symm.trans h
    rfl
  · exact (exec_keepsFilter hfeed (fun v p hi => hreset ⟨v, p, hi⟩) h).1.block

/-- Settles O13: the step writes nothing but the environment besides what its operation writes. -/
theorem configurationNeverChanges : Obligations.ConfigurationNeverChanges := by
  refine fun s t => ⟨fun i => exec_block, fun hstep => ?_⟩
  rcases step_cases hstep with ⟨_, u, hexec, rfl⟩ | ⟨_, rfl⟩
  · exact u.advance_block.trans (exec_block hexec)
  · rfl

/-- Settles O12: the build branches on the first failing check, and there is none exactly for an admissible configuration. -/
theorem onlyAdmissibleConfigurationsAreBuilt : Obligations.OnlyAdmissibleConfigurationsAreBuilt := by
  intro p
  unfold State.build
  refine ⟨fun h => ?_, fun h => ?_⟩
  · have hnone := p.firstError_none_iff.mpr h
    split
    · rfl
    · next hsome => exact nomatch hnone.symm.trans hsome
  · split
    · next hnone => exact absurd (p.firstError_none_iff.mp hnone) h
    · next e hsome => exact ⟨e, hsome, rfl⟩

/-- Settles O14: `exec_sampleWait` is the write of BD alone, and SAMPLE is no lit phase. -/
theorem sampleWaitOnlyClearsBatchDone : Obligations.SampleWaitOnlyClearsBatchDone := fun s =>
  ⟨exec_sampleWait s, fun hphase => ⟨s.outputs_adcReq_iff.mpr hphase, fun hs =>
    hs.dark_of_not_lit (State.not_lit_of_phase hphase (by decide))⟩⟩

/-- Only the reserved phase codes select RECOVER (R84). -/
theorem reserved_of_decode_recover : ∀ (p : PhaseCode) (valid v : Bool) (low : BitVec 2),
    decode (Selector.pack false valid p) = .recoverB v ∨ decode (Selector.pack false valid p) = .recoverCF v low →
    0xB ≤ p.toNat := by decide

/-- Settles O16: both rows are the same two writes, and where the tick selects one the phase is reserved. -/
theorem recoverGoesDarkToSample : Obligations.RecoverGoesDarkToSample := by
  intro s v low i hi
  have hor : i = .recoverB v ∨ i = .recoverCF v low := by simpa using hi
  refine ⟨by rcases hor with rfl | rfl <;> rfl, fun hrun hop => ?_⟩
  have hrst := ((Inputs.running_iff _).mp hrun).2
  have hreserved : 0xB ≤ s.phase.toNat := by
    rw [State.operation, State.selector, hrst] at hop
    exact reserved_of_decode_recover s.phase s.inputs.adcValid v low (hor.imp hop.trans hop.trans)
  exact ⟨hreserved, (State.Tick.recover hreserved).step_eq hrun⟩

end Sys2Proof.Machine
end

section
/-! PROOFS. Durations and frame lengths (spec/41_digit_driver.md R131 to R136, spec/40_pattern_table.md R111 to R117,
spec/42_multiplexer.md R166). -/

namespace Sys2Proof.Machine

/- ==== The table's rows (R111, R112, R117) ==== -/

/-- The ROM holds the duration of a digit unchanged in its 17 bits (R136). -/
theorem patRom_dur_of_digit (b : Block) (d : Fin 10) : (patRom b (BitVec.ofNat 4 d)).dur.toNat = b.val.dur d := by
  have hmod : d.val % 10 = d.val := Nat.mod_eq_of_lt d.isLt
  have hcode : digitCode d = BitVec.ofNat 4 d := congrArg (BitVec.ofNat 4) hmod
  rw [← hcode, (patRom_digit b d).2]
  exact congrArg b.val.dur (Fin.ext hmod)

/-- Settles O28: each row is the glyph of its digit code (`patRom_digit`). -/
theorem patternRomHoldsTheGlyphTable : Obligations.PatternRomHoldsTheGlyphTable := fun b =>
  ⟨(patRom_digit b 0).1, (patRom_digit b 1).1, (patRom_digit b 2).1, (patRom_digit b 3).1, (patRom_digit b 4).1,
    (patRom_digit b 5).1, (patRom_digit b 6).1, (patRom_digit b 7).1, (patRom_digit b 8).1, (patRom_digit b 9).1,
    patRom_dur_of_digit b⟩

/-- Settles O31: the counts are those of the ten rows, which O28 gives. -/
theorem segmentCountsOfTheGlyphs : Obligations.SegmentCountsOfTheGlyphs := by
  intro b
  obtain ⟨h0, h1, h2, h3, h4, h5, h6, h7, h8, h9, _⟩ := patternRomHoldsTheGlyphTable b
  have hcount {c : PatCode} {v : SegVec} (h : (patRom b c).seg = v) : segmentCount b c = popcount v 7 := by
    rw [segmentCount, h]
  rw [hcount h0, hcount h1, hcount h2, hcount h3, hcount h4, hcount h5, hcount h6, hcount h7, hcount h8, hcount h9]
  decide

/- ==== Durations (R131 to R136) ==== -/

/-- Settles O32: the quotient by a fraction is the product with its inverse, and the floor of a quotient of naturals is
their division. -/
theorem durationIsTheFloorOfTheQuotient : Obligations.DurationIsTheFloorOfTheQuotient := by
  intro b d
  rw [div_div_eq_mul_div, ← Nat.cast_mul, Rat.floor_natCast_div_natCast, Params.dur, Int.natCast_ediv]

/-- Digit 8, whose scale is 1, lasts the base duration (R135). -/
theorem dur_eight (b : Block) : b.val.dur 8 = b.val.baseUs := by
  obtain ⟨_, _, _, hpos, hone, _⟩ := b.property
  have h8 := (hpos 8).1
  rw [Params.dur]
  show b.val.baseUs * b.val.scale[8].den / b.val.scale[8].num = _
  rw [← hone]
  exact Nat.mul_div_cancel _ h8

/-- No digit lasts longer than digit 8 (R135). -/
theorem dur_le_eight (b : Block) (d : Fin 10) : b.val.dur d ≤ b.val.dur 8 := by
  obtain ⟨_, _, _, _, _, hle, _⟩ := b.property
  exact hle d

/-- Settles O33, from what admissibility says of the durations (R7, R8). -/
theorem digitEightLastsLongest : Obligations.DigitEightLastsLongest := by
  intro b
  obtain ⟨_, _, _, _, _, _, hlt, _⟩ := b.property
  exact ⟨dur_eight b, hlt, fun d => ⟨(b.dur_range d).1, dur_le_eight b d, patRom_dur_of_digit b d⟩⟩

/- ==== Frame lengths (R166) ==== -/

theorem digitTicks_eq (b : Block) (x : Nat) : digitTicks b x = b.val.dur ⟨x % 10, Nat.mod_lt _ (by decide)⟩ :=
  (patRom_digit b x).2

theorem digitTicks_le (b : Block) (x : Nat) : digitTicks b x ≤ b.val.dur 8 := by
  rw [digitTicks_eq]
  exact dur_le_eight b _

/-- The frame that shows 888 has the most work. -/
theorem frameWork_888 (b : Block) : frameWork b 888 = 3 * b.val.dur 8 + b.val.dpUs + 5 := by
  have h8 (x : Nat) (hx : x % 10 = 8) : digitTicks b x = b.val.dur 8 := by
    rw [digitTicks_eq]
    congr
  have hx : (rangeSelect 888).1 = 888 := rfl
  rw [frameWork, hx, h8 888 rfl, h8 (888 / 10) rfl, h8 (888 / 100) rfl]
  omega

theorem frameWork_le (b : Block) (v : Nat) : frameWork b v ≤ 3 * b.val.dur 8 + b.val.dpUs + 5 := by
  have h3 := digitTicks_le b (rangeSelect v).1
  have h2 := digitTicks_le b ((rangeSelect v).1 / 10)
  have h1 := digitTicks_le b ((rangeSelect v).1 / 100)
  rw [frameWork]
  omega

/-- Settles O52: the work is largest for 888, whose three digits are all 8. -/
theorem frameLengthAndBudget : Obligations.FrameLengthAndBudget := by
  intro b
  refine ⟨fun v => Nat.le_max_left _ _, fun hall => ?_, fun hbudget v _ => ?_⟩
  · rw [← frameWork_888, ← hall 888 (by decide)]
    exact Nat.le_max_right _ _
  · exact Nat.max_eq_left ((frameWork_le b v).trans hbudget)

end Sys2Proof.Machine
end
